-- ==== Sys2Proof/Word.lean ====
section
/-! DEFINITION. The widths of the block: bus data and command words, bus addresses, BUS transactions, array elements (00_scope.md R7, R11; 10_state.md). -/

namespace Sys2Proof

/-- A 32-bit word: host bus data, a command word, a framebuffer row (R11, R25, R90). -/
abbrev Word := BitVec 32

/-- A 9-bit word address of the host bus (R11, R60). -/
abbrev Addr := BitVec 9

/-- A BUS transaction: WE in bit 41, ADDR in bits 40:32, DATA in bits 31:0 (R90). -/
abbrev BusWord := BitVec 42

/-- An 8-bit element. RE, IM and SINQ are read as two's complement (`BitVec.toInt`), MAG, DCNT and THR as unsigned (R24, R26, R29, R32, R39). -/
abbrev Byte := BitVec 8

/-- A 4-bit unsigned level (R27, R28). -/
abbrev Level := BitVec 4

/-- A 5-bit unsigned bin index (R33). -/
abbrev BinIndex := BitVec 5

end Sys2Proof
end

