-- ==== Sys2Proof/Syntax.lean ====
section
/-! DEFINITION. The instructions: one constructor per row of spec/opcode_table.json, the three BUS transactions and the thirteen commands (30_encoding.md R90 to R93). -/

namespace Sys2Proof

/-- A BUS transaction or a command. A command constructor stands for the engine's performing of that command (R220);
`cmdIssue` stands for the host's write of CMD that issues one (R221). -/
inductive Instr where
  /-- RD, a host read of word address `addr` (R64). The DATA field of a read is ignored (R96), so it is no operand. -/
  | rd (addr : Addr)
  /-- WR, a host write of `data` to word address `addr`, `addr` not 0x003 (R65, R91). -/
  | wr (addr : Addr) (data : Word)
  /-- CMD_ISSUE, a host write of the command word `word` to CMD, legal or not (R63, R91, R221). -/
  | cmdIssue (word : Word)
  /-- NOP (R224). -/
  | nop
  /-- CLRIM, clear the imaginary array (R110). -/
  | clrim
  /-- BITREV, the bit-reversal permutation (R112). -/
  | bitrev
  /-- FFT, the in-place transform: `inv` is INV (bit 4), `scale` is SCALE (bit 5) (R117). -/
  | fft (inv scale : Bool)
  /-- MAG, magnitudes and levels of bins 0..31 (R147). -/
  | mag
  /-- UPDATE, merge the new levels into the decaying column state (R162). -/
  | update
  /-- RENDER, build the framebuffer from the column state (R166). -/
  | render
  /-- SCOPE, draw the time-domain samples (R169). -/
  | scope
  /-- CLRDISP, reset the display state (R171). -/
  | clrdisp
  /-- BTN_MODE, one edge of the mode button (R192). -/
  | btnMode
  /-- BTN_DISP, one edge of the display button (R194). -/
  | btnDisp
  /-- TICK, one elapsed frame for the tone sweep (R196). -/
  | tick
  /-- FRAME, one frame of the pipeline (R222). -/
  | frame
  deriving DecidableEq, Repr

/-- The two formats of R90: BUS words have 42 bits, CMD words 32. -/
inductive Format where
  | bus
  | cmd
  deriving DecidableEq, Repr

/-- The format a row of the opcode table belongs to. -/
def Instr.format : Instr → Format
  | .rd _ => .bus
  | .wr _ _ => .bus
  | .cmdIssue _ => .bus
  | .nop => .cmd
  | .clrim => .cmd
  | .bitrev => .cmd
  | .fft _ _ => .cmd
  | .mag => .cmd
  | .update => .cmd
  | .render => .cmd
  | .scope => .cmd
  | .clrdisp => .cmd
  | .btnMode => .cmd
  | .btnDisp => .cmd
  | .tick => .cmd
  | .frame => .cmd

end Sys2Proof
end

