-- ==== Sys2Proof/WellFormed.lean ====
section
/-! DEFINITION. Which terms of Instr stand for an encoding: every one, but a register write to the address of CMD, which is a command issue (R91). -/

namespace Sys2Proof

/-- R91: "A decoder tests ADDR = 0x003 before it classifies a write as a plain register write."
Every other operand is any value of its width. -/
def Instr.wellFormed : Instr → Bool
  | .rd _ => true
  | .wr addr _ => addr != 0x003#9
  | .cmdIssue _ => true
  | .nop => true
  | .clrim => true
  | .bitrev => true
  | .fft _ _ => true
  | .mag => true
  | .update => true
  | .render => true
  | .scope => true
  | .clrdisp => true
  | .btnMode => true
  | .btnDisp => true
  | .tick => true
  | .frame => true

end Sys2Proof
end

