-- ==== Sys2Proof/Decode.lean ====
section
/-! DEFINITION. From words to instructions, total and rejecting by name (30_encoding.md R90 to R96), and the encoder from the same tables. -/

namespace Sys2Proof

/-- Why a word is no instruction. -/
inductive DecodeError where
  /-- OP is 0xD, 0xE or 0xF (R94). -/
  | illegalOp
  /-- A bit of 31:6 of a command word is 1 (R94). -/
  | reservedBits
  /-- INV or SCALE is 1 and OP is not 0x3 (R94). -/
  | strayArgument
  /-- The number does not fit its format's 42 or 32 bits (R90: "one length"). -/
  | tooWide
  deriving DecidableEq, Repr

/-- What the decoder answers. -/
inductive Decoded where
  | instr (i : Instr)
  | rejected (why : DecodeError)
  deriving DecidableEq, Repr

/-- The instruction, where there is one. -/
def Decoded.toOption : Decoded → Option Instr
  | .instr i => some i
  | .rejected _ => none

/-! ## Command words (format CMD) -/

/-- OP, bits 3:0 of a command word (R90). -/
def cmdOp (w : Word) : BitVec 4 := w.extractLsb' 0 4
/-- INV, bit 4 of a command word (R90). -/
def cmdInv (w : Word) : Bool := w[4]
/-- SCALE, bit 5 of a command word (R90). -/
def cmdScale (w : Word) : Bool := w[5]
/-- Bits 31:6 of a command word, which must be 0 (R90). -/
def cmdReserved (w : Word) : BitVec 26 := w.extractLsb' 6 26

/-- The command of an OP value; FFT takes INV and SCALE (the table of R93). -/
def commandOfOp (op : BitVec 4) (inv scale : Bool) : Decoded :=
  match op.toNat with
  | 0x0 => .instr .nop
  | 0x1 => .instr .clrim
  | 0x2 => .instr .bitrev
  | 0x3 => .instr (.fft inv scale)
  | 0x4 => .instr .mag
  | 0x5 => .instr .update
  | 0x6 => .instr .render
  | 0x7 => .instr .scope
  | 0x8 => .instr .clrdisp
  | 0x9 => .instr .btnMode
  | 0xA => .instr .btnDisp
  | 0xB => .instr .tick
  | 0xC => .instr .frame
  | _ => .rejected .illegalOp

/-- The command of a 32-bit command word, or why it is illegal (R93, R94). -/
def decodeCmd (w : Word) : Decoded :=
  if cmdReserved w ≠ 0 then .rejected .reservedBits
  else if (cmdInv w || cmdScale w) && cmdOp w != 0x3#4 then .rejected .strayArgument
  else commandOfOp (cmdOp w) (cmdInv w) (cmdScale w)

/-- A legal command word (R94 lists the illegal ones). -/
def cmdLegal (w : Word) : Bool := (decodeCmd w).toOption.isSome

/-! ## Bus transactions (format BUS) -/

/-- WE, bit 41 of a BUS word (R90). -/
def busWe (b : BusWord) : Bool := b[41]
/-- ADDR, bits 40:32 of a BUS word (R90). -/
def busAddr (b : BusWord) : Addr := b.extractLsb' 32 9
/-- DATA, bits 31:0 of a BUS word (R90). -/
def busData (b : BusWord) : Word := b.extractLsb' 0 32

/-- The transaction of a BUS word: every one has a meaning (R96), and ADDR = 0x003 is tested first (R91). -/
def decodeBus (b : BusWord) : Instr :=
  if busWe b then
    if busAddr b = 0x003#9 then .cmdIssue (busData b)
    else .wr (busAddr b) (busData b)
  else .rd (busAddr b)

/-- The decoder, on any number read as a word of a format. -/
def decode (f : Format) (w : Nat) : Decoded :=
  match f with
  | .bus => if w < 2 ^ 42 then .instr (decodeBus (BitVec.ofNat 42 w)) else .rejected .tooWide
  | .cmd => if w < 2 ^ 32 then decodeCmd (BitVec.ofNat 32 w) else .rejected .tooWide

/-- The format of a table row of `nbits` bits in whole bytes: CMD rows have 32, BUS rows 48 (42 rounded up)
(notes/assumptions/9.md). -/
def formatOfBits (nbits : Nat) : Format := if nbits ≤ 32 then .cmd else .bus

/-- What the decoder reads from the instruction whose bits are `w`, numbered as the opcode table numbers them. -/
def decodeTableWord (nbits w : Nat) : Option Instr := (decode (formatOfBits nbits) w).toOption

/-! ## The encoder -/

/-- A BUS word from its three fields (R90). -/
def busWord (we : Bool) (addr : Addr) (data : Word) : BusWord := BitVec.ofBool we ++ addr ++ data

/-- A CMD word from its three fields (R90). -/
def cmdWord (scale inv : Bool) (op : BitVec 4) : Word := 0#26 ++ BitVec.ofBool scale ++ BitVec.ofBool inv ++ op

/-- The word of an instruction in its own format (`Instr.format`): the column "legal words" of R93 for a command. -/
def encode : Instr → Nat
  | .rd addr => (busWord false addr 0).toNat
  | .wr addr data => (busWord true addr data).toNat
  | .cmdIssue word => (busWord true 0x003#9 word).toNat
  | .nop => (cmdWord false false 0x0).toNat
  | .clrim => (cmdWord false false 0x1).toNat
  | .bitrev => (cmdWord false false 0x2).toNat
  | .fft inv scale => (cmdWord scale inv 0x3).toNat
  | .mag => (cmdWord false false 0x4).toNat
  | .update => (cmdWord false false 0x5).toNat
  | .render => (cmdWord false false 0x6).toNat
  | .scope => (cmdWord false false 0x7).toNat
  | .clrdisp => (cmdWord false false 0x8).toNat
  | .btnMode => (cmdWord false false 0x9).toNat
  | .btnDisp => (cmdWord false false 0xA).toNat
  | .tick => (cmdWord false false 0xB).toNat
  | .frame => (cmdWord false false 0xC).toNat

/-! ## The opcode map as masks (the second table of R93) -/

/-- A row: a word `w` is of it when `w &&& mask = bits`. -/
structure TableRow where
  mnemonic : String
  mask : Word
  bits : Word
  deriving DecidableEq, Repr

/-- Whether a command word is of a row. -/
def TableRow.covers (r : TableRow) (w : Word) : Bool := w &&& r.mask == r.bits

/-- "Decoder in one line per command, as (mask, match) on the 32-bit CMD word" (R93). -/
def cmdTable : List TableRow :=
  [⟨"NOP", 0xFFFFFFFF, 0x00000000⟩, ⟨"CLRIM", 0xFFFFFFFF, 0x00000001⟩, ⟨"BITREV", 0xFFFFFFFF, 0x00000002⟩,
   ⟨"FFT", 0xFFFFFFCF, 0x00000003⟩, ⟨"MAG", 0xFFFFFFFF, 0x00000004⟩, ⟨"UPDATE", 0xFFFFFFFF, 0x00000005⟩,
   ⟨"RENDER", 0xFFFFFFFF, 0x00000006⟩, ⟨"SCOPE", 0xFFFFFFFF, 0x00000007⟩, ⟨"CLRDISP", 0xFFFFFFFF, 0x00000008⟩,
   ⟨"BTN_MODE", 0xFFFFFFFF, 0x00000009⟩, ⟨"BTN_DISP", 0xFFFFFFFF, 0x0000000A⟩, ⟨"TICK", 0xFFFFFFFF, 0x0000000B⟩,
   ⟨"FRAME", 0xFFFFFFFF, 0x0000000C⟩]

/-- The mnemonic of an instruction, as spec/opcode_table.json spells it. -/
def Instr.mnemonic : Instr → String
  | .rd _ => "RD"
  | .wr _ _ => "WR"
  | .cmdIssue _ => "CMD_ISSUE"
  | .nop => "NOP"
  | .clrim => "CLRIM"
  | .bitrev => "BITREV"
  | .fft _ _ => "FFT"
  | .mag => "MAG"
  | .update => "UPDATE"
  | .render => "RENDER"
  | .scope => "SCOPE"
  | .clrdisp => "CLRDISP"
  | .btnMode => "BTN_MODE"
  | .btnDisp => "BTN_DISP"
  | .tick => "TICK"
  | .frame => "FRAME"

end Sys2Proof
end

