-- ==== Sys2Proof/Config.lean ====
section
/-! DEFINITION. What an implementation fixes (HAS_BUZZER, FFT_NARROW) and the free values: draws under no law (R9, R17, I10, I11). -/

namespace Sys2Proof

/-- The n-th draw (R17): a value the hardware chooses freely. It has no body, so no proof can know it.
A draw narrower than 32 bits is its low bits (notes/assumptions/4.md). -/
opaque Config.freeValue : Nat → Word

/-- HAS_BUZZER (R9): whether the optional ToneBuzzer state exists. "This hardware takes HAS_BUZZER = 1." -/
def Config.hasBuzzer : Bool := true

/-- FFT_NARROW (00_scope.md parameter summary, I10): what a butterfly result outside 8 bits becomes. -/
inductive Config.Narrowing where
  /-- It wraps modulo 256: this spec's value (R115). -/
  | wrap
  /-- It is held at -128 or 127: the other value I10 names, not this hardware's. -/
  | saturate
  deriving DecidableEq, Repr

/-- R115: "a result outside [-128, 127] wraps modulo 256". -/
def Config.fftNarrow : Config.Narrowing := .wrap

end Sys2Proof
end

