-- ==== Sys2Proof/Machine/ResetValues.lean ====
section
/-! DEFINITION. The reset values of 10_state.md §9, each one definition, and the draws that RE, IM, MAG and LEVEL hold after a reset (70_reset_and_hazards.md R270, R271). -/

namespace Sys2Proof.Machine

/-- R22: CTRL resets to 0. -/
def resetCtrl : BitVec 4 := 0
/-- R30: D resets to 4. -/
def resetDroop : Byte := 4
/-- R31: LMAX_SPEC resets to 8. -/
def resetLmaxSpec : BitVec 4 := 8
/-- R31: LMAX_TONE resets to 15. -/
def resetLmaxTone : BitVec 4 := 15
/-- R31: TONE_SHIFT resets to 3. -/
def resetToneShift : BitVec 3 := 3
/-- R31: TONE_SUB resets to 8. -/
def resetToneSub : BitVec 4 := 8
/-- R34: FMAX resets to 32. -/
def resetFmax : Byte := 32
/-- R34: STEP_FRAMES resets to 8. -/
def resetStepFrames : Byte := 8
/-- R35: K resets to 16000. -/
def resetToneK : BitVec 16 := 16000
/-- R37: IDX resets to 1. -/
def resetIdx : Byte := 1
/-- R37: TCNT resets to 0. -/
def resetTcnt : Byte := 0

/-- R32: the reset values of THR[0] to THR[14]. -/
def resetThr : Vector Byte 15 :=
  #v[2, 3, 5, 8, 12, 20, 32, 50, 72, 96, 120, 140, 160, 176, 255]

/-- R33: BAND[d] = d for every d. -/
def resetBand : Vector BinIndex 32 := Vector.ofFn fun d => BitVec.ofNat 5 d.val

/-- An unspecified 8-bit value (R17): the low bits of a draw. -/
def freeByte (n : Nat) : Byte := (Config.freeValue n).setWidth 8
/-- An unspecified 4-bit value (R17): the low bits of a draw. -/
def freeLevel (n : Nat) : Level := (Config.freeValue n).setWidth 4

/-- How many draws one reset takes: 64 for RE, 64 for IM, 32 for MAG, 32 for LEVEL (R271). -/
def resetDraws : Nat := 192

/-- RE after a reset that begins at draw `n`: a draw per element (R24, R271). -/
def resetRe (n : Nat) : Vector Byte 64 := Vector.ofFn fun i => freeByte (n + i.val)
/-- IM after a reset that begins at draw `n` (R24, R271). -/
def resetIm (n : Nat) : Vector Byte 64 := Vector.ofFn fun i => freeByte (n + 64 + i.val)
/-- MAG after a reset that begins at draw `n` (R26, R271). -/
def resetMag (n : Nat) : Vector Byte 32 := Vector.ofFn fun k => freeByte (n + 128 + k.val)
/-- LEVEL after a reset that begins at draw `n` (R27, R271). -/
def resetLevel (n : Nat) : Vector Level 32 := Vector.ofFn fun k => freeLevel (n + 160 + k.val)

end Sys2Proof.Machine
end

