-- ==== Sys2Proof/Machine/State.lean ====
section
/-! DEFINITION. All the state the spec gives the block (10_state.md), with the outside world's script and the model's own bookkeeping, as plain data; the state after reset; why a step can stop. -/

namespace Sys2Proof.Machine

/-- MODE.TONE_MODE (R36, R190): 0 Off, 1 ToneDirect, 2 ToneBuzzer; 3 is never held. -/
inductive ToneMode where
  | off
  | toneDirect
  | toneBuzzer
  deriving DecidableEq, Repr

/-- MODE.DISP (R36, R190): 0 Spectrum, 1 Oscilloscope. -/
inductive Disp where
  | spectrum
  | oscilloscope
  deriving DecidableEq, Repr

/-- One entry of the outside world's script: who acts next in the one total order of R74 (notes/assumptions/1.md). -/
inductive Input where
  /-- The host issues a bus transaction (R60). -/
  | bus (word : BusWord)
  /-- The engine may take its step (R220). -/
  | engine
  /-- The pin rst_n goes to a level (R43, R270). -/
  | resetPin (high : Bool)
  deriving DecidableEq, Repr

/-- The block. ID, SINQ, TONE_HP and STATUS.BUSY hold no state of their own: the first two are constants (R21, R39),
the last two are functions of the fields below (R38, R40). -/
structure State where
  /-- CTRL[3:0]: DOT, MIRROR, FSRC, IE (R22). -/
  ctrl : BitVec 4
  /-- STATUS.DONE (R23). -/
  done : Bool
  /-- STATUS.ERR_CMD (R23). -/
  errCmd : Bool
  /-- STATUS.ERR_BUSY (R23). -/
  errBusy : Bool
  /-- DROOP.D (R30). -/
  droop : Byte
  /-- QCFG.LMAX_SPEC (R31). -/
  lmaxSpec : BitVec 4
  /-- QCFG.LMAX_TONE (R31). -/
  lmaxTone : BitVec 4
  /-- QCFG.TONE_SHIFT (R31). -/
  toneShift : BitVec 3
  /-- QCFG.TONE_SUB (R31). -/
  toneSub : BitVec 4
  /-- TONE_CFG.FMAX (R34). -/
  fmax : Byte
  /-- TONE_CFG.STEP_FRAMES (R34). -/
  stepFrames : Byte
  /-- TONE_K (R35). -/
  toneK : BitVec 16
  /-- MODE.TONE_MODE (R36). -/
  toneMode : ToneMode
  /-- MODE.DISP (R36). -/
  disp : Disp
  /-- TONE_STATE.IDX (R37). -/
  idx : Byte
  /-- TONE_STATE.TCNT (R37). -/
  tcnt : Byte
  /-- RE (R24). -/
  re : Vector Byte 64
  /-- IM (R24). -/
  im : Vector Byte 64
  /-- MAG (R26). -/
  mag : Vector Byte 32
  /-- LEVEL (R27). -/
  level : Vector Level 32
  /-- CUR (R28). -/
  cur : Vector Level 32
  /-- PEAK (R28). -/
  peak : Vector Level 32
  /-- DCNT (R29). -/
  dcnt : Vector Byte 32
  /-- FB (R25). -/
  fb : Vector Word 8
  /-- THR (R32). -/
  thr : Vector Byte 15
  /-- BAND (R33). -/
  band : Vector BinIndex 32
  /-- PENDING: empty, or one accepted command word (R40). -/
  pending : Option Word
  /-- The level of the reset pin rst_n (R43, R270): true is high. -/
  rstN : Bool
  /-- The model's own: the outside world's script, oldest first (notes/assumptions/1.md). -/
  inputs : List Input
  /-- The model's own: the words the bus has returned to the host, newest first (notes/assumptions/3.md). -/
  reads : List Word
  /-- The model's own: how many free values have been drawn (notes/assumptions/4.md). -/
  draws : Nat
  deriving DecidableEq, Repr

/-- Why the machine stops with a fault. -/
inductive Fault where
  /-- The engine's turn came with a word in PENDING that is no legal command. Raised by `step` alone, never by an
  instruction. PENDING takes accepted, legal words only (R221), so no run reaches it. Safe (notes/assumptions/8.md). -/
  | illegalPending (word : Word)
  deriving DecidableEq, Repr

/-- Why an instruction has no meaning. -/
inductive Refusal where
  /-- The instruction is not modelled yet. Raised by exec's arms alone, for none of them now. Safe. -/
  | notModelled (mnemonic : String)
  deriving DecidableEq, Repr

/-- The block with every element at its reset value (R270, R271, R273), the reset beginning at draw `n`. -/
def State.resetFrom (n : Nat) : State where
  ctrl := resetCtrl
  done := false
  errCmd := false
  errBusy := false
  droop := resetDroop
  lmaxSpec := resetLmaxSpec
  lmaxTone := resetLmaxTone
  toneShift := resetToneShift
  toneSub := resetToneSub
  fmax := resetFmax
  stepFrames := resetStepFrames
  toneK := resetToneK
  toneMode := .off
  disp := .spectrum
  idx := resetIdx
  tcnt := resetTcnt
  re := resetRe n
  im := resetIm n
  mag := resetMag n
  level := resetLevel n
  cur := Vector.replicate 32 0
  peak := Vector.replicate 32 0
  dcnt := Vector.replicate 32 0
  fb := Vector.replicate 8 0
  thr := resetThr
  band := resetBand
  pending := none
  rstN := true
  inputs := []
  reads := []
  draws := n + resetDraws

/-- The machine right after the first reset: rst_n has just risen, no transaction has been issued. -/
def State.reset : State := State.resetFrom 0

end Sys2Proof.Machine
end

