-- ==== Sys2Proof/Machine/Operands.lean ====
section
/-! DEFINITION. The spec's arithmetic (00_scope.md R13, R14), the fields of CTRL, and what each word address of the register map names (20_memory.md R61, R62). -/

namespace Sys2Proof.Machine

/-! ## Arithmetic on mathematical integers -/

/-- `asr(v, s)` is floor(v / 2^s) (R13). -/
def asr (v : Int) (s : Nat) : Int := v / 2 ^ s

/-- `clamp(v, lo, hi) = min(max(v, lo), hi)` (R13). -/
def clamp (v lo hi : Int) : Int := min (max v lo) hi

/-- `n8(v)`, the wrap-around narrowing to a signed 8-bit value, as its bit pattern (R14). -/
def n8 (v : Int) : Byte := BitVec.ofInt 8 v

/-- The narrowing of a butterfly result (R115, FFT_NARROW): this hardware wraps. -/
def narrow (v : Int) : Byte :=
  match Config.fftNarrow with
  | .wrap => n8 v
  | .saturate => n8 (clamp v (-128) 127)

/-- `sext_32` of an 8-bit element (R14). -/
def sext32 (v : Byte) : Word := v.signExtend 32

/-- `zext_32` of a field of any width up to 32 (R14). -/
def zext32 {w : Nat} (v : BitVec w) : Word := v.setWidth 32

/-- `v[lo+len-1:lo]` of a 32-bit word (R12). -/
def bits (v : Word) (lo len : Nat) : BitVec len := v.extractLsb' lo len

/-- Index k = 0..31 of an array of 64: bin k of RE and IM (R147), sample k of RE (R169). -/
def lowerHalf (k : Fin 32) : Fin 64 := ⟨k.val, by omega⟩

/-- The array whose element i is `f i`: one loop over all the elements, each written once. Irreducible, so that no proof
runs the elements by accident; `getElem_tabulate` says what it holds. -/
@[irreducible] def tabulate {α : Type} {n : Nat} (f : Fin n → α) : Vector α n := Vector.ofFn f

/-! ## The fields of CTRL (R22) -/

/-- CTRL.DOT, bit 0: Dot rendering. -/
def State.dot (s : State) : Bool := s.ctrl[0]
/-- CTRL.MIRROR, bit 1: mirrored column order. -/
def State.mirror (s : State) : Bool := s.ctrl[1]
/-- CTRL.FSRC, bit 2: Fill draws PEAK. -/
def State.fsrc (s : State) : Bool := s.ctrl[2]
/-- CTRL.IE, bit 3: the done interrupt is enabled. -/
def State.ie (s : State) : Bool := s.ctrl[3]

/-! ## The fields of MODE (R36) -/

/-- The code of TONE_MODE in MODE bits 1:0. -/
def ToneMode.code : ToneMode → BitVec 2
  | .off => 0
  | .toneDirect => 1
  | .toneBuzzer => 2

/-- The code of DISP in MODE bit 2. -/
def Disp.code : Disp → Bool
  | .spectrum => false
  | .oscilloscope => true

/-- TONE_HP = TONE_K div IDX (R38, R198). IDX is never 0 (R197); where it were, the quotient reads 0 (notes/assumptions/6.md). -/
def State.toneHp (s : State) : BitVec 16 := s.toneK / s.idx.setWidth 16

/-! ## The register map (R61) -/

/-- What a word address names. -/
inductive Target where
  | id | ctrl | status | cmd | droop | qcfg | toneCfg | toneK | mode | toneState | toneHp
  | re (i : Fin 64) | im (i : Fin 64) | mag (k : Fin 32) | level (k : Fin 32)
  | cur (d : Fin 32) | peak (d : Fin 32) | dcnt (d : Fin 32) | fb (r : Fin 8)
  | thr (i : Fin 15) | band (d : Fin 32) | sinq (k : Fin 17)
  | reserved
  deriving DecidableEq, Repr

/-- The map of R61: element i of an array with base B is at B + i (R62), and every address not listed is reserved. -/
def target (a : Addr) : Target :=
  let n := a.toNat
  if n = 0x000 then .id
  else if n = 0x001 then .ctrl
  else if n = 0x002 then .status
  else if n = 0x003 then .cmd
  else if n = 0x004 then .droop
  else if n = 0x005 then .qcfg
  else if n = 0x006 then .toneCfg
  else if n = 0x007 then .toneK
  else if n = 0x008 then .mode
  else if n = 0x009 then .toneState
  else if n = 0x00A then .toneHp
  else if n < 0x040 then .reserved
  else if h : n < 0x080 then .re ⟨n - 0x040, by omega⟩
  else if h : n < 0x0C0 then .im ⟨n - 0x080, by omega⟩
  else if h : n < 0x0E0 then .mag ⟨n - 0x0C0, by omega⟩
  else if h : n < 0x100 then .level ⟨n - 0x0E0, by omega⟩
  else if h : n < 0x120 then .cur ⟨n - 0x100, by omega⟩
  else if h : n < 0x140 then .peak ⟨n - 0x120, by omega⟩
  else if h : n < 0x160 then .dcnt ⟨n - 0x140, by omega⟩
  else if h : n < 0x168 then .fb ⟨n - 0x160, by omega⟩
  else if n < 0x170 then .reserved
  else if h : n < 0x17F then .thr ⟨n - 0x170, by omega⟩
  else if n < 0x180 then .reserved
  else if h : n < 0x1A0 then .band ⟨n - 0x180, by omega⟩
  else if h : n < 0x1B1 then .sinq ⟨n - 0x1A0, by omega⟩
  else .reserved

end Sys2Proof.Machine
end

