-- ==== Sys2Proof/Machine/Flags.lean ====
section
/-! DEFINITION. The block's only flags, the four bits of STATUS (10_state.md R23, R42), and its output ports (R44). -/

namespace Sys2Proof.Machine

/-- STATUS.BUSY: "1 exactly when PENDING is not empty" (R40). -/
def State.busy (s : State) : Bool := s.pending.isSome

/-- `{ERR_BUSY, ERR_CMD, DONE, BUSY}`, STATUS[3:0] (R23, R64). -/
def State.status (s : State) : BitVec 4 :=
  BitVec.ofBool s.errBusy ++ BitVec.ofBool s.errCmd ++ BitVec.ofBool s.done ++ BitVec.ofBool s.busy

/-- A write of STATUS (R65): each of DONE, ERR_CMD, ERR_BUSY is cleared by writing 1; BUSY is read-only.
It is the host's only way back from an error (R246). -/
def clearStatus (v : Word) (s : State) : State :=
  { s with done := s.done && !v[1], errCmd := s.errCmd && !v[2], errBusy := s.errBusy && !v[3] }

/-! ## Output ports (R44): pure functions of the state, valid while rst_n is high -/

/-- irq = CTRL.IE and STATUS.DONE (R44, R244). -/
def State.irq (s : State) : Bool := s.ie && s.done

/-- tone_en: 1 when TONE_MODE is not Off (R44). -/
def State.toneEn (s : State) : Bool := s.toneMode ≠ .off

/-- tone_sel = TONE_MODE (R44). The port tone_hp is `State.toneHp`. -/
def State.toneSel (s : State) : BitVec 2 := s.toneMode.code

/-- bias_sel: 1 when TONE_MODE is not Off (R44, R195). -/
def State.biasSel (s : State) : Bool := s.toneMode ≠ .off

end Sys2Proof.Machine
end

