-- ==== Sys2Proof/Machine/Rom.lean ====
section
/-! DEFINITION. The constants a host reads: the ID word and the quarter-wave twiddle ROM SINQ (10_state.md R21, R39; 40_fft.md R111). -/

namespace Sys2Proof.Machine

/-- R21: "Reads return 0x46465436". -/
def idWord : Word := 0x46465436

/-- R111: SINQ[0..16], signed. -/
def sinq : Vector Byte 17 :=
  #v[0, 12, 25, 37, 49, 60, 71, 81, 90, 98, 106, 112, 117, 122, 125, 126, 127]

end Sys2Proof.Machine
end

