-- ==== Sys2Proof/Machine/Ops.lean ====
section
/-! DEFINITION. The shared operations: recording an error, accepting and completing a command, the display-state reset, host reads and writes, the reset pin. -/

namespace Sys2Proof.Machine

/-! ## Errors (60_exceptions.md): the block never traps; an error is one sticky STATUS bit -/

/-- The block's two errors (R16, R241, R242). -/
inductive ErrorKind where
  /-- CmdError. -/
  | cmd
  /-- BusyError. -/
  | busy
  deriving DecidableEq, Repr

/-- `raise CmdError`, `raise BusyError`: the error's STATUS bit becomes 1 and nothing else changes (R16, R240 to R242).
There is no entry and nothing to return from (R246); the host clears the bit by `clearStatus`. -/
def raise (e : ErrorKind) (s : State) : State :=
  match e with
  | .cmd => { s with errCmd := true }
  | .busy => { s with errBusy := true }

/-! ## The life of a command (44_control.md R220, R221) -/

/-- A legal word is accepted: PENDING holds it, so BUSY is 1, and DONE is cleared (R221). -/
def acceptCommand (w : Word) (s : State) : State := { s with pending := some w, done := false }

/-- IssueCommand(v) (R221). -/
def issueCommand (v : Word) (s : State) : State :=
  if cmdLegal v then acceptCommand v s else raise .cmd s

/-- The end of the engine's step: PENDING empty, so BUSY is 0, and DONE is 1 (R220). -/
def complete (s : State) : State := { s with pending := none, done := true }

/-! ## The display-state reset (42_display.md R172) -/

/-- ResetDisplay: every CUR, PEAK, DCNT and FB element becomes 0. -/
def resetDisplay (s : State) : State :=
  { s with cur := Vector.replicate 32 0, peak := Vector.replicate 32 0, dcnt := Vector.replicate 32 0,
           fb := Vector.replicate 8 0 }

/-! ## Host reads (20_memory.md R64) -/

/-- QCFG as a word: `{TONE_SUB, 0b0, TONE_SHIFT, LMAX_TONE, LMAX_SPEC}` (R31, R64). -/
def State.qcfg (s : State) : BitVec 16 := s.toneSub ++ 0#1 ++ s.toneShift ++ s.lmaxTone ++ s.lmaxSpec

/-- The value an address holds (the case list of R64). -/
def readTarget (t : Target) (s : State) : Word :=
  match t with
  | .id => idWord
  | .ctrl => zext32 s.ctrl
  | .status => zext32 s.status
  | .cmd => 0
  | .droop => zext32 s.droop
  | .qcfg => zext32 s.qcfg
  | .toneCfg => zext32 (s.stepFrames ++ s.fmax)
  | .toneK => zext32 s.toneK
  | .mode => zext32 (BitVec.ofBool s.disp.code ++ s.toneMode.code)
  | .toneState => zext32 (s.tcnt ++ s.idx)
  | .toneHp => zext32 s.toneHp
  | .re i => sext32 s.re[i]
  | .im i => sext32 s.im[i]
  | .mag k => zext32 s.mag[k]
  | .level k => zext32 s.level[k]
  | .cur d => zext32 s.cur[d]
  | .peak d => zext32 s.peak[d]
  | .dcnt d => zext32 s.dcnt[d]
  | .fb r => s.fb[r]
  | .thr i => zext32 s.thr[i]
  | .band d => zext32 s.band[d]
  | .sinq k => sext32 sinq[k]
  | .reserved => 0

/-- Whether a read returns an unspecified value: BUSY = 1 and the address is neither ID nor STATUS (R64, R72). -/
def readIsDraw (a : Addr) (s : State) : Bool := s.busy && a != 0x000#9 && a != 0x002#9

/-- `MemRead(a, 4)`: 0 while rst_n is low (R270), else as R64 says. -/
def memRead (a : Addr) (s : State) : Word :=
  if !s.rstN then 0
  else if readIsDraw a s then Config.freeValue s.draws
  else readTarget (target a) s

/-- How many draws the read takes. -/
def readDraws (a : Addr) (s : State) : Nat := if s.rstN && readIsDraw a s then 1 else 0

/-! ## Host writes (20_memory.md R65) -/

/-- What an accepted write does to an address (the case list of R65). -/
def writeTarget (t : Target) (v : Word) (s : State) : State :=
  match t with
  | .id => s
  | .ctrl => { s with ctrl := bits v 0 4 }
  | .status => clearStatus v s
  | .cmd => issueCommand v s
  | .droop => { s with droop := bits v 0 8 }
  | .qcfg => { s with lmaxSpec := bits v 0 4, lmaxTone := bits v 4 4, toneShift := bits v 8 3, toneSub := bits v 12 4 }
  | .toneCfg => { s with fmax := bits v 0 8, stepFrames := bits v 8 8 }
  | .toneK => { s with toneK := bits v 0 16 }
  | .mode => s
  | .toneState => s
  | .toneHp => s
  | .re i => { s with re := s.re.set i (bits v 0 8) }
  | .im i => { s with im := s.im.set i (bits v 0 8) }
  | .mag _ => s
  | .level k => { s with level := s.level.set k (bits v 0 4) }
  | .cur _ => s
  | .peak _ => s
  | .dcnt _ => s
  | .fb _ => s
  | .thr i => { s with thr := s.thr.set i (bits v 0 8) }
  | .band d => { s with band := s.band.set d (bits v 0 5) }
  | .sinq _ => s
  | .reserved => s

/-- `MemWrite(a, 4, v)`: no effect while rst_n is low (R270), a BusyError while BUSY = 1 unless it is of STATUS (R65, R72),
else as R65 says. -/
def memWrite (a : Addr) (v : Word) (s : State) : State :=
  if !s.rstN then s
  else if s.busy && a != 0x002#9 then raise .busy s
  else writeTarget (target a) v s

/-! ## The reset pin (70_reset_and_hazards.md R270 to R272) -/

/-- rst_n goes to a level. Low: every element takes its reset value, with fresh draws, and a command in flight is
abandoned (R272). High: the block leaves reset holding those values. The script, the host's record of what it has read
and the count of draws are not the block's, and go on. -/
def setResetPin (high : Bool) (s : State) : State :=
  if high then { s with rstN := true }
  else { State.resetFrom s.draws with rstN := false, inputs := s.inputs, reads := s.reads }

end Sys2Proof.Machine
end

