-- ==== Sys2Proof/Machine/Bus.lean ====
section
/-! DEFINITION. The meanings of the three bus transactions RD, WR and CMD_ISSUE (20_memory.md R64, R65; 44_control.md R221). -/

namespace Sys2Proof.Machine

/-- RD (R64): the host receives the word; "A read changes no state". -/
def execRd (addr : Addr) (s : State) : Host.Outcome State Fault Refusal :=
  .next { s with reads := memRead addr s :: s.reads, draws := s.draws + readDraws addr s }

/-- WR (R65). -/
def execWr (addr : Addr) (data : Word) (s : State) : Host.Outcome State Fault Refusal :=
  .next (memWrite addr data s)

/-- CMD_ISSUE (R63, R65, R221): the write of CMD. -/
def execCmdIssue (word : Word) (s : State) : Host.Outcome State Fault Refusal :=
  .next (memWrite 0x003#9 word s)

end Sys2Proof.Machine
end

