-- ==== Sys2Proof/Machine/Display.lean ====
section
/-! DEFINITION. The decay display buffer and the oscilloscope path: UPDATE, RENDER, SCOPE and CLRDISP (42_display.md). -/

namespace Sys2Proof.Machine

/-! ## UPDATE -/

/-- CUR[d], PEAK[d] and DCNT[d] of one column. -/
structure Column where
  cur : Level
  peak : Level
  dcnt : Byte
  deriving DecidableEq, Repr

/-- Deff = max(DROOP.D, 1) (R161). -/
def effectiveDroop (s : State) : Nat := max s.droop.toNat 1

/-- One column of UPDATE (R162): attack, decay step or count, and then CUR[d] <- lvl. -/
def updateColumn (deff : Nat) (lvl : Level) (c : Column) : Column :=
  if c.peak < lvl then { cur := lvl, peak := lvl, dcnt := 0 }
  else if c.dcnt.toNat + 1 ≥ deff then
    { cur := lvl, peak := if lvl < c.peak then c.peak - 1 else c.peak, dcnt := 0 }
  else { cur := lvl, peak := c.peak, dcnt := c.dcnt + 1 }

/-- Column d of the state. -/
def State.column (s : State) (d : Fin 32) : Column := { cur := s.cur[d], peak := s.peak[d], dcnt := s.dcnt[d] }

/-- The level column d takes: LEVEL[BAND[d]] (R160). -/
def State.bandLevel (s : State) (d : Fin 32) : Level := s.level[s.band[d].toFin]

/-- Column d after UPDATE (R162); the columns do not act on each other. -/
def updatedColumn (s : State) (d : Fin 32) : Column := updateColumn (effectiveDroop s) (s.bandLevel d) (s.column d)

/-- The body of UPDATE (R162). -/
def update (s : State) : State :=
  { s with cur := tabulate fun d => (updatedColumn s d).cur,
           peak := tabulate fun d => (updatedColumn s d).peak,
           dcnt := tabulate fun d => (updatedColumn s d).dcnt }

/-- UPDATE (R162, R220). -/
def execUpdate (s : State) : Host.Outcome State Fault Refusal := .next (complete (update s))

/-! ## Drawing -/

/-- A framebuffer row: from 0, bit `pos d` is set for every column d that is lit (the loops of R166 and R169). -/
def drawRow (lit : Fin 32 → Bool) (pos : Fin 32 → Fin 32) : Word :=
  (List.finRange 32).foldl (fun row d => if lit d then row ||| (1#32 <<< (pos d).val) else row) 0

/-! ## RENDER -/

/-- pos(d) (R165): d, or 31 - d where MIRROR = 1. -/
def columnPos (mirror : Bool) (d : Fin 32) : Fin 32 := if mirror then d.rev else d

/-- The bar height of column d in Fill mode (R167): CUR, or PEAK where FSRC = 1. -/
def State.fillLevel (s : State) (d : Fin 32) : Level := if s.fsrc then s.peak[d] else s.cur[d]

/-- Fill lights row r of a column at level v when v >= r + 1 (R164, R166). -/
def fillLit (v : Level) (r : Fin 8) : Bool := v.toNat ≥ r.val + 1

/-- Dot lights the one row min(v, 8) - 1 when v >= 1 (R166, R168). -/
def dotLit (v : Level) (r : Fin 8) : Bool := v.toNat ≥ 1 && min v.toNat 8 - 1 == r.val

/-- Whether RENDER lights row r of column d (R166). -/
def rowLit (s : State) (r : Fin 8) (d : Fin 32) : Bool :=
  if s.dot then dotLit s.peak[d] r else fillLit (s.fillLevel d) r

/-- The body of RENDER (R166): every row is rebuilt. -/
def render (s : State) : State :=
  { s with fb := tabulate fun r => drawRow (rowLit s r) (columnPos s.mirror) }

/-- RENDER (R166, R220). -/
def execRender (s : State) : Host.Outcome State Fault Refusal := .next (complete (render s))

/-! ## SCOPE -/

/-- The row of a sample (R169, R170): (s + 128) div 32. -/
def scopeRow (sample : Byte) : Int := (sample.toInt + 128) / 32

/-- Whether SCOPE lights row r of column c: RE[c] falls in row r (R169). -/
def scopeLit (s : State) (r : Fin 8) (c : Fin 32) : Bool := scopeRow s.re[lowerHalf c] == r.val

/-- The body of SCOPE (R169). -/
def scope (s : State) : State := { s with fb := tabulate fun r => drawRow (scopeLit s r) id }

/-- SCOPE (R169, R220). -/
def execScope (s : State) : Host.Outcome State Fault Refusal := .next (complete (scope s))

/-! ## CLRDISP -/

/-- CLRDISP (R171, R220): ResetDisplay. -/
def execClrdisp (s : State) : Host.Outcome State Fault Refusal := .next (complete (resetDisplay s))

end Sys2Proof.Machine
end

