-- ==== Sys2Proof/Machine/Fft.lean ====
section
/-! DEFINITION. The FFT engine: CLRIM, BITREV and FFT (40_fft.md). -/

namespace Sys2Proof.Machine

/-! ## CLRIM -/

/-- The body of CLRIM (R110): `for i in 0..63: IM[i] <- 0`. -/
def clrim (s : State) : State := { s with im := Vector.replicate 64 0 }

/-- CLRIM (R110, R220). -/
def execClrim (s : State) : Host.Outcome State Fault Refusal := .next (complete (clrim s))

/-! ## BITREV -/

/-- rev6(i): the 6-bit value whose bit b is bit 5-b of i (R112). -/
def rev6 (i : Fin 64) : Fin 64 :=
  Fin.ofNat 64 (i.val % 2 * 32 + i.val / 2 % 2 * 16 + i.val / 4 % 2 * 8 + i.val / 8 % 2 * 4 + i.val / 16 % 2 * 2
    + i.val / 32 % 2)

/-- The permutation of one array: element i of the result is element rev6(i) of the copy (R112). -/
def bitrevArray (x : Vector Byte 64) : Vector Byte 64 := tabulate fun i => x[rev6 i]

/-- The body of BITREV (R112). -/
def bitrev (s : State) : State := { s with re := bitrevArray s.re, im := bitrevArray s.im }

/-- BITREV (R112, R220). -/
def execBitrev (s : State) : Host.Outcome State Fault Refusal := .next (complete (bitrev s))

/-! ## Twiddles and the butterfly -/

/-- An entry of SINQ as the signed number it is; the index is at most 16 where R113 uses it. -/
def sinqInt (k : Nat) : Int := (sinq[Fin.ofNat 17 k]).toInt

/-- sin64(j), the reflection of the quarter wave (R113). -/
def sin64 (j : Nat) : Int :=
  let q := j % 64 / 16
  let r := j % 64 % 16
  if q = 0 then sinqInt r
  else if q = 1 then sinqInt (16 - r)
  else if q = 2 then -sinqInt r
  else -sinqInt (16 - r)

/-- cos64(j) = sin64(j + 16) (R113). -/
def cos64 (j : Nat) : Int := sin64 (j + 16)

/-- fmul(w, x) = asr(w * x + 64, 7) (R114). -/
def fmul (w x : Int) : Int := asr (w * x + 64) 7

/-- `asr 1` where SCALE = 1 (R116, R117, R119). -/
def halveIf (scale : Bool) (v : Int) : Int := if scale then asr v 1 else v

/-- wr of angle index j (R117): cos64(j), halved where SCALE = 1. -/
def twiddleRe (scale : Bool) (j : Nat) : Int := halveIf scale (cos64 j)

/-- wi of angle index j (R117, R118): -sin64(j), negated where INV = 1, then halved where SCALE = 1. -/
def twiddleIm (inv scale : Bool) (j : Nat) : Int := halveIf scale (if inv then sin64 j else -sin64 j)

/-- RE and IM together. -/
structure Coeffs where
  re : Vector Byte 64
  im : Vector Byte 64
  deriving DecidableEq, Repr

/-- One butterfly (R116): all four reads come before the four writes, and only the stored values are narrowed (R115). -/
def butterfly (scale : Bool) (wr wi : Int) (i jj : Fin 64) (c : Coeffs) : Coeffs :=
  let tr := fmul wr c.re[jj].toInt - fmul wi c.im[jj].toInt
  let ti := fmul wr c.im[jj].toInt + fmul wi c.re[jj].toInt
  let qr := halveIf scale c.re[i].toInt
  let qi := halveIf scale c.im[i].toInt
  { re := (c.re.set jj (narrow (qr - tr))).set i (narrow (qr + tr))
    im := (c.im.set jj (narrow (qi - ti))).set i (narrow (qi + ti)) }

/-! ## FFT -/

/-- An element index; every index R117 computes is below 64. -/
def element (n : Nat) : Fin 64 := Fin.ofNat 64 n

/-- The inner loop of R117: the butterflies of position `mm` in every group, `i = mm, mm + istep, …` while `i < 64`, with
`l = 2^t` and `istep = 2 * l`, so 32 / l groups. -/
def stagePosition (inv scale : Bool) (t mm : Nat) (c : Coeffs) : Coeffs :=
  let l := 2 ^ t
  let j := mm * 2 ^ (5 - t)
  (List.range (32 / l)).foldl
    (fun c g => butterfly scale (twiddleRe scale j) (twiddleIm inv scale j)
      (element (mm + g * (2 * l))) (element (mm + g * (2 * l) + l)) c) c

/-- Stage s = t + 1 of R117: positions `mm` in 0..l-1. -/
def stage (inv scale : Bool) (t : Nat) (c : Coeffs) : Coeffs :=
  (List.range (2 ^ t)).foldl (fun c mm => stagePosition inv scale t mm c) c

/-- The transform (R117): the permutation, then the six stages l = 1, 2, …, 32. Irreducible, so that no proof runs the 192
butterflies by accident. -/
@[irreducible] def transform (inv scale : Bool) (c : Coeffs) : Coeffs :=
  (List.range 6).foldl (fun c t => stage inv scale t c) { re := bitrevArray c.re, im := bitrevArray c.im }

/-- The body of FFT (R117, R120): RE and IM only. -/
def fft (inv scale : Bool) (s : State) : State :=
  { s with re := (transform inv scale { re := s.re, im := s.im }).re,
           im := (transform inv scale { re := s.re, im := s.im }).im }

/-- FFT (R117, R220). -/
def execFft (inv scale : Bool) (s : State) : Host.Outcome State Fault Refusal := .next (complete (fft inv scale s))

end Sys2Proof.Machine
end

