-- ==== Sys2Proof/Machine/Magnitude.lean ====
section
/-! DEFINITION. The magnitude mapper and level quantizer: MAG (41_magnitude.md). -/

namespace Sys2Proof.Machine

/-- The loop of R141 with `n` iterations left. -/
def isqrtLoop : Nat → Nat → Nat → Nat → Nat
  | 0, _, res, _ => res
  | n + 1, x, res, bit =>
    if x ≥ res + bit then isqrtLoop n (x - (res + bit)) (res / 2 + bit) (bit / 4)
    else isqrtLoop n x (res / 2) (bit / 4)

/-- isqrt of a 16-bit operand: 8 iterations from bit = 2^14 (R141). -/
def isqrt (p : Nat) : Nat := isqrtLoop 8 p 0 (2 ^ 14)

/-- p(k) = RE[k]^2 + IM[k]^2, exact (R142). -/
def power (re im : Byte) : Nat := (re.toInt * re.toInt + im.toInt * im.toInt).toNat

/-- The threshold quantizer (R144): the least i in 0..LM-1 with m < THR[i], LM where there is none. -/
def qthr (thr : Vector Byte 15) (lm m : Nat) : Nat := (thr.toList.take lm).findIdx fun t => decide (m < t.toNat)

/-- The linear quantizer (R145): clamp(asr(m, S) - H, 0, LT). -/
def qlin (shift sub lt m : Nat) : Nat := (clamp (asr m shift - sub) 0 lt).toNat

/-- MAG[k] (R147). -/
def magnitude (s : State) (k : Fin 32) : Nat :=
  isqrt (power s.re[lowerHalf k] s.im[lowerHalf k])

/-- LEVEL[k] of magnitude `m` (R143, R147): TONE_MODE selects the quantizer, DISP does not. -/
def quantize (s : State) (m : Nat) : Nat :=
  match s.toneMode with
  | .off => qthr s.thr s.lmaxSpec.toNat m
  | .toneDirect => qlin s.toneShift.toNat s.toneSub.toNat s.lmaxTone.toNat m
  | .toneBuzzer => qlin s.toneShift.toNat s.toneSub.toNat s.lmaxTone.toNat m

/-- The body of MAG (R147): bins 0..31. -/
def magBody (s : State) : State :=
  { s with mag := tabulate fun k => BitVec.ofNat 8 (magnitude s k),
           level := tabulate fun k => BitVec.ofNat 4 (quantize s (magnitude s k)) }

/-- MAG (R147, R220). -/
def execMag (s : State) : Host.Outcome State Fault Refusal := .next (complete (magBody s))

end Sys2Proof.Machine
end

