-- ==== Sys2Proof/Machine/ModeTone.lean ====
section
/-! DEFINITION. The mode and tone-generator state machine: BTN_MODE, BTN_DISP and TICK (43_mode_tone.md). -/

namespace Sys2Proof.Machine

/-- The next tone mode (R191), for both values of HAS_BUZZER. Without a buzzer ToneBuzzer is "not reachable"; from it the
model goes to Off as well (notes/assumptions/7.md). -/
def nextToneMode (hasBuzzer : Bool) : ToneMode → ToneMode
  | .off => .toneDirect
  | .toneDirect => if hasBuzzer then .toneBuzzer else .off
  | .toneBuzzer => .off

/-- The body of BTN_MODE (R192, R193), for a value of HAS_BUZZER. -/
def btnModeWith (hasBuzzer : Bool) (s : State) : State :=
  resetDisplay { s with toneMode := nextToneMode hasBuzzer s.toneMode, idx := 1, tcnt := 0 }

/-- BTN_MODE (R192, R220), on this hardware (R9). -/
def execBtnMode (s : State) : Host.Outcome State Fault Refusal := .next (complete (btnModeWith Config.hasBuzzer s))

/-- MODE.DISP <- 1 - MODE.DISP (R194). -/
def Disp.toggle : Disp → Disp
  | .spectrum => .oscilloscope
  | .oscilloscope => .spectrum

/-- The body of BTN_DISP (R194). -/
def btnDisp (s : State) : State := resetDisplay { s with disp := s.disp.toggle }

/-- BTN_DISP (R194, R220). -/
def execBtnDisp (s : State) : Host.Outcome State Fault Refusal := .next (complete (btnDisp s))

/-- Fm = max(FMAX, 1) (R196). -/
def topIndex (s : State) : Nat := max s.fmax.toNat 1

/-- St = max(STEP_FRAMES, 1) (R196). -/
def framesPerStep (s : State) : Nat := max s.stepFrames.toNat 1

/-- One count of an active sweep (R196): step IDX with a wrap to 1, or count TCNT. -/
def sweep (s : State) : State :=
  if s.tcnt.toNat + 1 ≥ framesPerStep s then
    { s with tcnt := 0, idx := if s.idx.toNat ≥ topIndex s then 1 else s.idx + 1 }
  else { s with tcnt := s.tcnt + 1 }

/-- The body of TICK (R196): it counts "while active", that is while TONE_MODE is not Off. -/
def tick (s : State) : State := if s.toneMode = .off then s else sweep s

/-- TICK (R196, R220). -/
def execTick (s : State) : Host.Outcome State Fault Refusal := .next (complete (tick s))

end Sys2Proof.Machine
end

