-- ==== Sys2Proof/Machine/Control.lean ====
section
/-! DEFINITION. NOP and FRAME (44_control.md R222, R224). -/

namespace Sys2Proof.Machine

/-- NOP (R224, R220): nothing but the completion. -/
def execNop (s : State) : Host.Outcome State Fault Refusal := .next (complete s)

/-- The pipeline of a frame (R222), less its TICK: the spectrum path, or the oscilloscope path that bypasses it. -/
def framePath (s : State) : State :=
  match s.disp with
  | .spectrum => render (update (magBody (fft false true (clrim s))))
  | .oscilloscope => scope s

/-- The body of FRAME (R222): the path MODE.DISP selects, then TICK. -/
def frameBody (s : State) : State := tick (framePath s)

/-- FRAME (R222, R220): one DONE at the end of the whole. -/
def execFrame (s : State) : Host.Outcome State Fault Refusal := .next (complete (frameBody s))

end Sys2Proof.Machine
end

