-- ==== Sys2Proof/Machine/Dispatch.lean ====
section
/-! DEFINITION. From an instruction to its meaning, one arm per constructor. -/

namespace Sys2Proof.Machine

def exec (i : Instr) (s : State) : Host.Outcome State Fault Refusal :=
  match i with
  | .rd addr => Sys2Proof.Machine.execRd addr s
  | .wr addr data => Sys2Proof.Machine.execWr addr data s
  | .cmdIssue word => Sys2Proof.Machine.execCmdIssue word s
  | .nop => Sys2Proof.Machine.execNop s
  | .clrim => Sys2Proof.Machine.execClrim s
  | .bitrev => Sys2Proof.Machine.execBitrev s
  | .fft inv scale => Sys2Proof.Machine.execFft inv scale s
  | .mag => Sys2Proof.Machine.execMag s
  | .update => Sys2Proof.Machine.execUpdate s
  | .render => Sys2Proof.Machine.execRender s
  | .scope => Sys2Proof.Machine.execScope s
  | .clrdisp => Sys2Proof.Machine.execClrdisp s
  | .btnMode => Sys2Proof.Machine.execBtnMode s
  | .btnDisp => Sys2Proof.Machine.execBtnDisp s
  | .tick => Sys2Proof.Machine.execTick s
  | .frame => Sys2Proof.Machine.execFrame s

end Sys2Proof.Machine
end

