-- ==== Sys2Proof/Machine/Sequencer.lean ====
section
/-! DEFINITION. What comes next in the one total order of R74: a host transaction, a turn of the engine, a change of rst_n, or nothing (44_control.md R220; 70_reset_and_hazards.md R270). -/

namespace Sys2Proof.Machine

/-- What the next step is. -/
inductive Event where
  /-- The instruction `i` runs in the state `s`. -/
  | run (i : Instr) (s : State)
  /-- Nothing runs; the state is `s`. -/
  | quiet (s : State)
  /-- PENDING holds a word that is no legal command. -/
  | illegal (word : Word)
  deriving DecidableEq, Repr

/-- A turn of the engine (R220): it performs the command in PENDING, and has no step while PENDING is empty. -/
def engineTurn (s : State) : Event :=
  match s.pending with
  | none => .quiet s
  | some w =>
    match decodeCmd w with
    | .instr i => .run i s
    | .rejected _ => .illegal w

/-- The next event. Each entry of the script is used once, in order. When the script is used up the host is silent, and a
command in flight completes: "a model assumes it is eventually taken" (R220; notes/assumptions/1.md). -/
def nextEvent (s : State) : Event :=
  match s.inputs with
  | [] => engineTurn s
  | .bus b :: rest => .run (decodeBus b) { s with inputs := rest }
  | .engine :: rest => engineTurn { s with inputs := rest }
  | .resetPin high :: rest => .quiet (setResetPin high { s with inputs := rest })

/-- The state in which the next step is the host's transaction `b`. -/
def placeBus (b : BusWord) (s : State) : State := { s with inputs := .bus b :: s.inputs }

/-- The state in which the next step is the engine's performing of the accepted command word `w`. -/
def placeCommand (w : Word) (s : State) : State := acceptCommand w { s with inputs := .engine :: s.inputs }

/-- The instruction whose bits are `w`, placed as the next to run (notes/assumptions/9.md). -/
def placeWord (s : State) (nbits w : Nat) : State :=
  match formatOfBits nbits with
  | .bus => placeBus (BitVec.ofNat 42 w) s
  | .cmd => placeCommand (BitVec.ofNat 32 w) s

end Sys2Proof.Machine
end

