-- ==== Sys2Proof/Machine/Step.lean ====
section
/-! DEFINITION. One step of the machine: the next event of the total order of R74. -/

namespace Sys2Proof.Machine

/-- A step performs the next event (R74, R220): one transaction, one completion, one change of rst_n, or, with no script and
nothing in flight, nothing. -/
def step (s : State) : Host.Outcome State Fault Refusal :=
  match nextEvent s with
  | .run i t => exec i t
  | .quiet t => .next t
  | .illegal w => .fault (.illegalPending w)

/-- `s` with the instruction whose bits are `w` placed where the next step takes it from. -/
def State.withFetchWord (s : State) (nbits w : Nat) : State := placeWord s nbits w

end Sys2Proof.Machine
end

