-- ==== Sys2Proof/Safety.lean ====
section
/-! DEFINITION. What every run from reset keeps, in the terms claims use. -/

namespace Sys2Proof.Machine

/-- The invariant of the block. Each clause is a sentence of the spec about every state. -/
structure State.Inv (s : State) : Prop where
  /-- "IDX is never 0" (R37, R197). -/
  idx_pos : s.idx ≠ 0
  /-- "TCNT stays in 0..254" (R196). -/
  tcnt_le : s.tcnt.toNat ≤ 254
  /-- "DCNT stays in 0..254" (R162). -/
  dcnt_le : ∀ d : Fin 32, (s.dcnt[d]).toNat ≤ 254
  /-- PEAK[d] >= CUR[d] for every d (R163): UPDATE leaves it so, and the resets write 0 to both. -/
  cur_le_peak : ∀ d : Fin 32, s.cur[d] ≤ s.peak[d]
  /-- PENDING is "either empty or one accepted command word" (R40), and only legal words are accepted (R221). -/
  pending_legal : ∀ w, s.pending = some w → cmdLegal w = true
  /-- "DONE = 1, which implies BUSY = 0" (R76). -/
  done_idle : s.done = true → s.busy = false
  /-- No command is in flight while rst_n is low (R270, R272). -/
  reset_idle : s.rstN = false → s.busy = false
  /-- "With HAS_BUZZER = 0 … ToneBuzzer is never held" (R191). -/
  buzzer_built : Config.hasBuzzer = false → s.toneMode ≠ .toneBuzzer

/-- A run is safe when every step of it answers a next state: "The block never traps" (R240). -/
def SafeFrom (s : State) : Prop := ∀ k : Nat, ∃ t, Sys2Proof.core.run k s = .next t

end Sys2Proof.Machine
end

