-- ==== Sys2Proof/Certificates/Slice0/Obligations.lean ====
section
/-! DEFINITION. The statements for the provers, from the numbered rules of spec/. Frames are said by equality with the state before, all its other fields as they were. -/

namespace Sys2Proof.Claims

open Sys2Proof.Machine

/-- The addresses R61 lists as reserved. -/
def isReserved (a : Addr) : Prop :=
  (0x00B ≤ a.toNat ∧ a.toNat ≤ 0x03F) ∨ (0x168 ≤ a.toNat ∧ a.toNat ≤ 0x16F) ∨ a.toNat = 0x17F ∨ 0x1B1 ≤ a.toNat

/-- The read-only addresses (R70): ID, MODE, TONE_STATE, TONE_HP, MAG, CUR, PEAK, DCNT, FB, SINQ. -/
def isReadOnly (a : Addr) : Prop :=
  a.toNat = 0x000 ∨ (0x008 ≤ a.toNat ∧ a.toNat ≤ 0x00A) ∨ (0x0C0 ≤ a.toNat ∧ a.toNat ≤ 0x0DF) ∨
  (0x100 ≤ a.toNat ∧ a.toNat ≤ 0x167) ∨ (0x1A0 ≤ a.toNat ∧ a.toNat ≤ 0x1B0)

/-- The word address B + i (R62). -/
def addr (base i : Nat) : Addr := BitVec.ofNat 9 (base + i)

/-- The host reads `a` and receives `v`, and nothing else changes. -/
def Returns (s : State) (a : Addr) (v : Word) : Prop := exec (.rd a) s = .next { s with reads := v :: s.reads }

/-- The host writes `v` to `a`, which leaves `t`. -/
def Writes (s : State) (a : Addr) (v : Word) (t : State) : Prop := exec (.wr a v) s = .next t

/-- An idle block out of reset: the condition under which R64 and R65 use their case lists. -/
def Idle (s : State) : Prop := s.rstN = true ∧ s.busy = false

/-- The block completes a command that leaves `t` but for its completion: PENDING empty, DONE 1 (R220). -/
def Completes (i : Instr) (s t : State) : Prop := exec i s = .next { t with pending := none, done := true }

/-- `n` completions of one command, one after another. -/
def execTimes (i : Instr) : Nat → State → Host.Outcome State Fault Refusal
  | 0, s => .next s
  | n + 1, s =>
    match exec i s with
    | .next t => execTimes i n t
    | .fault r => .fault r
    | .refused r => .refused r

/-- The equations of R116 for stage t + 1 of R117, from the arrays `a` before the stage to the arrays `b` after it, with the
twiddle of R117 to R119: for every position `mm` and every group `g`. -/
def StageRule (inv scale : Bool) (t : Nat) (a b : Coeffs) : Prop :=
  ∀ mm g : Nat, mm < 2 ^ t → g < 32 / 2 ^ t →
    let i := element (mm + g * 2 ^ (t + 1))
    let jj := element (mm + g * 2 ^ (t + 1) + 2 ^ t)
    let half := fun v : Int => if scale then v / 2 else v
    let wr := half (cos64 (mm * 2 ^ (5 - t)))
    let wi := half (if inv then sin64 (mm * 2 ^ (5 - t)) else -sin64 (mm * 2 ^ (5 - t)))
    let tr := (wr * a.re[jj].toInt + 64) / 128 - (wi * a.im[jj].toInt + 64) / 128
    let ti := (wr * a.im[jj].toInt + 64) / 128 + (wi * a.re[jj].toInt + 64) / 128
    let qr := half a.re[i].toInt
    let qi := half a.im[i].toInt
    b.re[jj] = BitVec.ofInt 8 (qr - tr) ∧ b.im[jj] = BitVec.ofInt 8 (qi - ti) ∧
    b.re[i] = BitVec.ofInt 8 (qr + tr) ∧ b.im[i] = BitVec.ofInt 8 (qi + ti)

/-- `repeat: l <- l div 2 until mr + l <= 63` of R121, with `fuel` halvings left. -/
def scanBit (mr : Nat) : Nat → Nat → Nat
  | 0, l => l
  | fuel + 1, l => if mr + l / 2 ≤ 63 then l / 2 else scanBit mr fuel (l / 2)

/-- The scan of R121 over one array, at `mm = 64 - n` with `n` positions left and `mr` the last index: pairwise swaps in one
forward scan, each pair at most once. -/
def scan : Nat → Nat → Vector Byte 64 → Vector Byte 64
  | 0, _, x => x
  | n + 1, mr, x =>
    let mm := 64 - (n + 1)
    let l := scanBit mr 6 64
    let mr' := mr % l + l
    scan n mr' (if mr' > mm then x.swap (element mm) (element mr') else x)

/-- THR ascends (R144). -/
def Ascending (thr : Vector Byte 15) : Prop := ∀ i j : Fin 15, i ≤ j → thr[i].toNat ≤ thr[j].toNat

end Sys2Proof.Claims

open Sys2Proof Sys2Proof.Machine Sys2Proof.Claims

/-! ## Encoding -/

/-- Decoding the word of a well-formed instruction, in its own format, gives the instruction back. -/
def Obligations.DecodeEncodeRoundTrip : Prop :=
  ∀ i : Instr, i.wellFormed = true → decode i.format (encode i) = .instr i

/-- The other direction: an accepted command word is the encoding of its command; a BUS word is the encoding of its
transaction, but that a read's DATA field, which is ignored (R96), is encoded as 0. -/
def Obligations.EncodeDecodeRoundTrip : Prop :=
  (∀ (w : Word) (i : Instr), decodeCmd w = .instr i → i.format = .cmd ∧ encode i = w.toNat) ∧
  (∀ (we : Bool) (a : Addr) (d : Word),
    encode (decodeBus (busWord we a d)) = (busWord we a (if we then d else 0)).toNat ∧
    (decodeBus (busWord we a d)).wellFormed = true)

/-- Every one of the 2^32 command words is one of the 16 legal words of R93, or illegal. -/
def Obligations.LegalWordsAreTheSixteen : Prop :=
  ∀ w : Word, cmdLegal w = true ↔
    w ∈ [0x00#32, 0x01#32, 0x02#32, 0x03#32, 0x13#32, 0x23#32, 0x33#32, 0x04#32, 0x05#32, 0x06#32, 0x07#32, 0x08#32,
      0x09#32, 0x0A#32, 0x0B#32, 0x0C#32]

/-- R94: when a command word is illegal, and what issuing one does with BUSY = 0 and with BUSY = 1. -/
def Obligations.IllegalWordRaisesCmdErrorOnly : Prop :=
  (∀ w : Word, cmdLegal w = false ↔
    (w.toNat % 16 ≥ 0xD ∨ w.toNat / 64 ≠ 0 ∨ (w.toNat % 16 ≠ 0x3 ∧ w.toNat / 16 % 4 ≠ 0))) ∧
  (∀ (w : Word) (s : State), s.rstN = true → cmdLegal w = false → s.busy = false →
    exec (.cmdIssue w) s = .next { s with errCmd := true }) ∧
  (∀ (w : Word) (s : State), s.rstN = true → s.busy = true →
    exec (.cmdIssue w) s = .next { s with errBusy := true })

/-- The mask and match table of R93 and the decoder name the same command for every word: no two rows match the same word,
and a word that matches no row is illegal. -/
def Obligations.MaskTableAgreesWithDecoder : Prop :=
  ∀ w : Word, (cmdTable.filter fun r => r.covers w).map TableRow.mnemonic =
    match decodeCmd w with
    | .instr i => [i.mnemonic]
    | .rejected _ => []

/-- Words the spec writes out (30_encoding.md R93; 95_test_vectors.md P1 to P3) decode to what it says they are. -/
def Obligations.WrittenWordsDecode : Prop :=
  decode .cmd 0x23 = .instr (.fft false true) ∧ decode .cmd 0x13 = .instr (.fft true false) ∧
  decode .cmd 0x0C = .instr .frame ∧ decode .cmd 0x0D = .rejected .illegalOp ∧
  decode .cmd 0x11 = .rejected .strayArgument ∧ decode .cmd 0x40 = .rejected .reservedBits ∧
  decode .bus 0x24000000064 = .instr (.wr 0x040#9 0x64) ∧ decode .bus 0x2030000000C = .instr (.cmdIssue 0xC) ∧
  decode .bus 0x16000000000 = .instr (.rd 0x160)

/-! ## Steps, the invariant, safety -/

/-- What a step does, for every next event of the script. The script is the model's form of R74's total order
(notes/assumptions/1.md), and that a step with the script used up and PENDING empty leaves the state as it is, is the
model's choice (notes/assumptions/12.md): a transaction or the command in flight runs by `exec`, the engine has no step while PENDING is
empty, and rst_n changes. -/
def Obligations.StepRunsTheDecodedInstruction : Prop :=
  ∀ (s : State) (rest : List Input),
    (∀ b, step { s with inputs := .bus b :: rest } = exec (decodeBus b) { s with inputs := rest }) ∧
    (∀ w i, s.pending = some w → decodeCmd w = .instr i →
      step { s with inputs := .engine :: rest } = exec i { s with inputs := rest } ∧
      step { s with inputs := [] } = exec i { s with inputs := [] }) ∧
    (s.pending = none →
      step { s with inputs := .engine :: rest } = .next { s with inputs := rest } ∧
      step { s with inputs := [] } = .next { s with inputs := [] }) ∧
    (∀ high, step { s with inputs := .resetPin high :: rest } = .next (setResetPin high { s with inputs := rest }))

/-- The invariant holds after reset. -/
def Obligations.ResetMeetsInvariant : Prop := State.reset.Inv

/-- Every step keeps the invariant: IDX is never 0, TCNT and DCNT stay in 0..254, PEAK >= CUR, PENDING is legal, DONE and a
low rst_n each imply BUSY = 0. -/
def Obligations.StepKeepsInvariant : Prop := ∀ s t : State, s.Inv → step s = .next t → t.Inv

/-- The block never traps (R240): from every state that meets the invariant, whatever the script, no step stops. -/
def Obligations.BlockNeverStops : Prop := ∀ s : State, s.Inv → SafeFrom s

/-- A command in flight is completed: when the script is used up and one step more is taken, BUSY is 0. That the engine acts
when the script is used up is the model's form of R220's weak fairness (notes/assumptions/1.md). -/
def Obligations.CommandInFlightCompletes : Prop :=
  ∀ s : State, s.Inv → ∃ t, Sys2Proof.core.run (s.inputs.length + 1) s = .next t ∧ t.inputs = [] ∧ t.busy = false

/-! ## Reset -/

/-- R270: while rst_n is low no transaction is accepted; when it rises every element with a stated reset value holds it,
whatever the state was. RE, IM, MAG and LEVEL are not constrained (R271). -/
def Obligations.ResetPinGivesResetValues : Prop :=
  (∀ s : State, s.rstN = false → ∀ (a : Addr) (v : Word),
    Returns s a 0 ∧ Writes s a v s ∧ exec (.cmdIssue v) s = .next s) ∧
  (∀ (s : State) (rest : List Input), ∃ t,
    Sys2Proof.core.run 2 { s with inputs := .resetPin false :: .resetPin true :: rest } = .next t ∧ t.inputs = rest ∧
    t.rstN = true ∧ t.ctrl = 0 ∧ t.done = false ∧ t.errCmd = false ∧ t.errBusy = false ∧ t.busy = false ∧
    t.toneMode = .off ∧ t.disp = .spectrum ∧ t.droop = 4 ∧ t.qcfg = 0x83F8 ∧ t.fmax = 0x20 ∧ t.stepFrames = 0x08 ∧
    t.toneK = 16000 ∧ t.idx = 1 ∧ t.tcnt = 0 ∧ t.pending = none ∧
    (∀ d : Fin 32, t.cur[d] = 0 ∧ t.peak[d] = 0 ∧ t.dcnt[d] = 0 ∧ t.band[d].toNat = d.val) ∧
    (∀ r : Fin 8, t.fb[r] = 0) ∧
    t.thr.toList.map BitVec.toNat = [2, 3, 5, 8, 12, 20, 32, 50, 72, 96, 120, 140, 160, 176, 255])

/-- R273: the mode after reset, and no command in flight. -/
def Obligations.ResetMode : Prop :=
  State.reset.toneMode = .off ∧ State.reset.disp = .spectrum ∧ State.reset.mirror = false ∧ State.reset.dot = false ∧
  State.reset.ie = false ∧ State.reset.pending = none

/-! ## The bus -/

/-- R64, with the map of R61 and the absolute addresses of R62: what each read returns; a read changes no state. Two
things are the model's choice: the unspecified word of a read while BUSY = 1 is `Config.freeValue` at the count of draws,
which the read advances (notes/assumptions/4.md), and the host's record of what it read, `reads`, is no state of the block
(notes/assumptions/3.md). -/
def Obligations.ReadReturnsMappedWord : Prop :=
  ∀ s : State, s.rstN = true →
    Returns s 0x000#9 0x46465436 ∧
    Returns s 0x002#9 (BitVec.ofNat 32 (8 * s.errBusy.toNat + 4 * s.errCmd.toNat + 2 * s.done.toNat + s.busy.toNat)) ∧
    (s.busy = true → ∀ a : Addr, a ≠ 0x000#9 → a ≠ 0x002#9 →
      exec (.rd a) s = .next { s with reads := Config.freeValue s.draws :: s.reads, draws := s.draws + 1 }) ∧
    (s.busy = false →
      Returns s 0x001#9 (BitVec.ofNat 32 s.ctrl.toNat) ∧
      Returns s 0x003#9 0 ∧
      Returns s 0x004#9 (BitVec.ofNat 32 s.droop.toNat) ∧
      Returns s 0x005#9 (BitVec.ofNat 32
        (4096 * s.toneSub.toNat + 256 * s.toneShift.toNat + 16 * s.lmaxTone.toNat + s.lmaxSpec.toNat)) ∧
      Returns s 0x006#9 (BitVec.ofNat 32 (256 * s.stepFrames.toNat + s.fmax.toNat)) ∧
      Returns s 0x007#9 (BitVec.ofNat 32 s.toneK.toNat) ∧
      Returns s 0x008#9 (BitVec.ofNat 32 ((if s.disp = .oscilloscope then 4 else 0) +
        (if s.toneMode = .toneDirect then 1 else if s.toneMode = .toneBuzzer then 2 else 0))) ∧
      Returns s 0x009#9 (BitVec.ofNat 32 (256 * s.tcnt.toNat + s.idx.toNat)) ∧
      (s.idx ≠ 0 → Returns s 0x00A#9 (BitVec.ofNat 32 (s.toneK.toNat / s.idx.toNat))) ∧
      (∀ i : Fin 64, Returns s (addr 0x040 i) (BitVec.ofInt 32 s.re[i].toInt) ∧
        Returns s (addr 0x080 i) (BitVec.ofInt 32 s.im[i].toInt)) ∧
      (∀ k : Fin 32, Returns s (addr 0x0C0 k) (BitVec.ofNat 32 s.mag[k].toNat) ∧
        Returns s (addr 0x0E0 k) (BitVec.ofNat 32 s.level[k].toNat) ∧
        Returns s (addr 0x100 k) (BitVec.ofNat 32 s.cur[k].toNat) ∧
        Returns s (addr 0x120 k) (BitVec.ofNat 32 s.peak[k].toNat) ∧
        Returns s (addr 0x140 k) (BitVec.ofNat 32 s.dcnt[k].toNat) ∧
        Returns s (addr 0x180 k) (BitVec.ofNat 32 s.band[k].toNat)) ∧
      (∀ r : Fin 8, Returns s (addr 0x160 r) s.fb[r]) ∧
      (∀ i : Fin 15, Returns s (addr 0x170 i) (BitVec.ofNat 32 s.thr[i].toNat)) ∧
      (∀ k : Fin 17, Returns s (addr 0x1A0 k) (BitVec.ofInt 32 sinq[k].toInt)) ∧
      (∀ a : Addr, isReserved a → Returns s a 0))

/-- R65: what each accepted write stores, and that it changes nothing else; bits of the word outside the field are ignored. -/
def Obligations.WriteStoresField : Prop :=
  ∀ (s : State) (v : Word), s.rstN = true →
    Writes s 0x002#9 v
      { s with done := s.done && !v.getLsbD 1, errCmd := s.errCmd && !v.getLsbD 2, errBusy := s.errBusy && !v.getLsbD 3 } ∧
    (s.busy = true → ∀ a : Addr, a ≠ 0x002#9 → Writes s a v { s with errBusy := true }) ∧
    (s.busy = false →
      Writes s 0x001#9 v { s with ctrl := BitVec.ofNat 4 v.toNat } ∧
      exec (.cmdIssue v) s = .next
        (if cmdLegal v then { s with pending := some v, done := false } else { s with errCmd := true }) ∧
      Writes s 0x004#9 v { s with droop := BitVec.ofNat 8 v.toNat } ∧
      Writes s 0x005#9 v
        { s with lmaxSpec := BitVec.ofNat 4 v.toNat, lmaxTone := BitVec.ofNat 4 (v.toNat / 16),
                 toneShift := BitVec.ofNat 3 (v.toNat / 256), toneSub := BitVec.ofNat 4 (v.toNat / 4096) } ∧
      Writes s 0x006#9 v { s with fmax := BitVec.ofNat 8 v.toNat, stepFrames := BitVec.ofNat 8 (v.toNat / 256) } ∧
      Writes s 0x007#9 v { s with toneK := BitVec.ofNat 16 v.toNat } ∧
      (∀ i : Fin 64, Writes s (addr 0x040 i) v { s with re := s.re.set i (BitVec.ofNat 8 v.toNat) } ∧
        Writes s (addr 0x080 i) v { s with im := s.im.set i (BitVec.ofNat 8 v.toNat) }) ∧
      (∀ k : Fin 32, Writes s (addr 0x0E0 k) v { s with level := s.level.set k (BitVec.ofNat 4 v.toNat) } ∧
        Writes s (addr 0x180 k) v { s with band := s.band.set k (BitVec.ofNat 5 v.toNat) }) ∧
      (∀ i : Fin 15, Writes s (addr 0x170 i) v { s with thr := s.thr.set i (BitVec.ofNat 8 v.toNat) }) ∧
      (∀ a : Addr, isReadOnly a ∨ isReserved a → Writes s a v s))

/-- R68 and R70: reserved addresses read 0 (CMD too), and writes of reserved and read-only addresses have no effect and raise
no error. -/
def Obligations.ReservedAndReadOnlyAddresses : Prop :=
  ∀ s : State, Idle s → ∀ (a : Addr) (v : Word),
    (isReserved a ∨ a = 0x003#9 → Returns s a 0) ∧ (isReserved a ∨ isReadOnly a → Writes s a v s)

/-- A write of any address but CMD leaves every other address reading as before, but that TONE_HP follows TONE_K (R71).
Reads are those of an idle block. -/
def Obligations.WriteLeavesOtherAddressesAlone : Prop :=
  ∀ (s : State) (a : Addr) (v : Word), Idle s → a ≠ 0x003#9 → ∃ t, exec (.wr a v) s = .next t ∧ Idle t ∧
    ∀ b : Addr, b ≠ a → (a = 0x007#9 → b ≠ 0x00A#9) → memRead b t = memRead b s

/-- R72: an access while a command is in flight. A read that draws advances the count of draws (notes/assumptions/4.md) and is
recorded (notes/assumptions/3.md); neither is state of the block. -/
def Obligations.AccessWhileCommandInFlight : Prop :=
  ∀ s : State, s.rstN = true → s.busy = true → ∀ (a : Addr) (v : Word),
    (a ≠ 0x002#9 → Writes s a v { s with errBusy := true }) ∧
    exec (.cmdIssue v) s = .next { s with errBusy := true } ∧
    Writes s 0x002#9 v
      { s with done := s.done && !v.getLsbD 1, errCmd := s.errCmd && !v.getLsbD 2, errBusy := s.errBusy && !v.getLsbD 3 } ∧
    Returns s 0x000#9 0x46465436 ∧
    Returns s 0x002#9 (BitVec.ofNat 32 (8 * s.errBusy.toNat + 4 * s.errCmd.toNat + 2 * s.done.toNat + 1)) ∧
    (a ≠ 0x000#9 → a ≠ 0x002#9 → ∃ x, exec (.rd a) s = .next { s with reads := x :: s.reads, draws := s.draws + 1 })

/-- R242: no host transaction affects the command in flight or what it works on: the state changes only in STATUS and in what
the host has read. -/
def Obligations.HostCannotDisturbCommandInFlight : Prop :=
  ∀ (s t : State) (i : Instr), s.busy = true → i.format = .bus → exec i s = .next t →
    t = { s with done := t.done, errCmd := t.errCmd, errBusy := t.errBusy, reads := t.reads, draws := t.draws }

/-! ## The life of a command -/

/-- R221: issuing a command word with BUSY = 0, and that a CMD write with BUSY = 1 never reaches IssueCommand. -/
def Obligations.IssueCommandAcceptsLegalWords : Prop :=
  ∀ (s : State) (v : Word), s.rstN = true →
    (s.busy = false → cmdLegal v = true →
      exec (.cmdIssue v) s = .next { s with pending := some v, done := false } ∧
      ({ s with pending := some v, done := false } : State).busy = true) ∧
    (s.busy = false → cmdLegal v = false → exec (.cmdIssue v) s = .next { s with errCmd := true }) ∧
    (s.busy = true → exec (.cmdIssue v) s = .next { s with errBusy := true })

/-- Every one of the thirteen commands completes: PENDING is empty, BUSY 0, DONE 1 (R220); no command changes an error bit
(R245), a configuration register, rst_n, the script, or takes a draw (R227). -/
def Obligations.EveryCommandCompletes : Prop :=
  ∀ (i : Instr) (s : State), i.format = .cmd → ∃ t, exec i s = .next t ∧ t.pending = none ∧ t.busy = false ∧ t.done = true ∧
    t.errCmd = s.errCmd ∧ t.errBusy = s.errBusy ∧ t.ctrl = s.ctrl ∧ t.droop = s.droop ∧ t.qcfg = s.qcfg ∧
    t.fmax = s.fmax ∧ t.stepFrames = s.stepFrames ∧ t.toneK = s.toneK ∧ t.thr = s.thr ∧ t.band = s.band ∧
    t.rstN = s.rstN ∧ t.inputs = s.inputs ∧ t.reads = s.reads ∧ t.draws = s.draws

/-- R224: NOP does nothing but complete; BUSY is 1 from its issue to its completion. -/
def Obligations.NopOnlyCompletes : Prop :=
  ∀ s : State, Completes .nop s s ∧
    (Idle s → ∃ t, exec (.cmdIssue 0) s = .next t ∧ t = { s with pending := some 0, done := false } ∧ t.busy = true)

/-- R244: irq = CTRL.IE and STATUS.DONE, when it rises, when it falls, and that errors do not raise it. -/
def Obligations.IrqIsLevelOfDone : Prop :=
  (∀ s : State, s.irq = (s.ctrl.getLsbD 3 && s.done)) ∧
  (∀ (i : Instr) (s t : State), i.format = .cmd → exec i s = .next t → t.irq = s.ctrl.getLsbD 3) ∧
  (∀ (s : State) (v : Word), Idle s → ∃ t, exec (.wr 0x001#9 v) s = .next t ∧ t.irq = (v.getLsbD 3 && s.done)) ∧
  (∀ (s : State) (v : Word), s.rstN = true → v.getLsbD 1 = true → ∃ t, exec (.wr 0x002#9 v) s = .next t ∧ t.irq = false) ∧
  (∀ (s : State) (w : Word), Idle s → cmdLegal w = true → ∃ t, exec (.cmdIssue w) s = .next t ∧ t.irq = false) ∧
  (∀ (e : ErrorKind) (s : State), (raise e s).irq = s.irq)

/-- The error bits (R241, R242, R245, R246): only the issue of an illegal word sets ERR_CMD, only a host write of an address
other than STATUS, a command issue among them, sets ERR_BUSY, and only a write of STATUS clears either. -/
def Obligations.ErrorBitsChangeOnlyByHostWrites : Prop :=
  ∀ (i : Instr) (s t : State), exec i s = .next t →
    (s.errCmd = false → t.errCmd = true → ∃ w, (i = .cmdIssue w ∨ i = .wr 0x003#9 w) ∧ cmdLegal w = false ∧ s.busy = false) ∧
    (s.errBusy = false → t.errBusy = true →
      s.busy = true ∧ ((∃ a v, i = .wr a v ∧ a ≠ 0x002#9) ∨ ∃ w, i = .cmdIssue w)) ∧
    ((s.errCmd = true ∧ t.errCmd = false) ∨ (s.errBusy = true ∧ t.errBusy = false) → ∃ v, i = .wr 0x002#9 v)

/-- A litmus of R72 and R220, as 95_test_vectors.md P5 has it: with a host write of LEVEL and the engine's turn in either
order after an accepted command, the write is discarded with BusyError if it comes first, so that the run ends as it does
without the write but for ERR_BUSY, and is performed if it comes second, so that the run ends as it does without the write
but for that element. That the order is the script's is the model's form of the open interleaving (notes/assumptions/1.md). -/
def Obligations.WriteRacesWithCompletion : Prop :=
  ∀ (s : State) (k : Fin 32) (v w : Word), Idle s → cmdLegal w = true →
    let issue := Input.bus (busWord true 0x003#9 w)
    let write := Input.bus (busWord true (addr 0x0E0 k) v)
    ∃ r, Sys2Proof.core.run 2 { s with inputs := [issue, .engine] } = .next r ∧ r.busy = false ∧ r.errBusy = s.errBusy ∧
      Sys2Proof.core.run 3 { s with inputs := [issue, write, .engine] } = .next { r with errBusy := true } ∧
      Sys2Proof.core.run 3 { s with inputs := [issue, .engine, write] } =
        .next { r with level := r.level.set k (BitVec.ofNat 4 v.toNat) }

/-! ## The FFT engine -/

/-- R110: CLRIM. -/
def Obligations.ClrimClearsIm : Prop :=
  ∀ s : State, ∃ im : Vector Byte 64, (∀ i : Fin 64, im[i] = 0) ∧ Completes .clrim s { s with im := im }

/-- R112: BITREV moves to element i the element whose 6-bit index is i's reversed, in RE and IM alike. -/
def Obligations.BitrevPermutes : Prop :=
  ∀ s : State, ∃ re im : Vector Byte 64, Completes .bitrev s { s with re := re, im := im } ∧
    ∀ i j : Fin 64, (∀ b, b < 6 → j.val.testBit b = i.val.testBit (5 - b)) → re[i] = s.re[j] ∧ im[i] = s.im[j]

/-- The bit-reversal permutation is an involution (R122, §8): two BITREVs leave RE and IM, and all else but STATUS, unchanged. -/
def Obligations.BitrevTwiceIsIdentity : Prop :=
  ∀ s : State, execTimes .bitrev 2 s = .next { s with pending := none, done := true }

/-- The source's scan of pairwise swaps (R121) gives what BITREV gives: an equality the spec marks as its own inference from
R112. -/
def Obligations.ScanEqualsBitrev : Prop :=
  ∀ s : State, Completes .bitrev s { s with re := scan 63 0 s.re, im := scan 63 0 s.im }

/-- R114: fmul(w, x) is w x / 128 rounded to nearest with ties toward plus infinity, in every product. -/
def Obligations.FmulRoundsToNearest : Prop :=
  ∀ w x : Int, 128 * fmul w x ≤ w * x + 64 ∧ w * x + 64 < 128 * fmul w x + 128

/-- The bounds of fmul on 8-bit operands, which R114 marks as its own inference from the formula. -/
def Obligations.FmulBounds : Prop :=
  ∀ w x : Int, -128 ≤ w → w ≤ 127 → -128 ≤ x → x ≤ 127 →
    -127 ≤ fmul w x ∧ fmul w x ≤ 128 ∧ (fmul w x = 128 ↔ w = -128 ∧ x = -128) ∧
    (-64 ≤ w → w ≤ 64 → -64 ≤ fmul w x ∧ fmul w x ≤ 64)

/-- R111: SINQ[k] is 127 sin(2 pi k / 64) rounded to the nearest integer, half up. -/
def Obligations.SinqIsRoundedSine : Prop :=
  ∀ k : Fin 17, (sinq[k]).toInt = ⌊127 * Real.sin (2 * Real.pi * k.val / 64) + 1 / 2⌋

/-- R113: the reflection of the quarter wave, and the symmetries that make it a sine and a cosine of period 64. -/
def Obligations.TwiddleReflection : Prop :=
  (∀ r : Fin 17, sin64 r.val = (sinq[r]).toInt) ∧
  ∀ j : Nat, sin64 (j + 64) = sin64 j ∧ sin64 (j + 32) = -sin64 j ∧ cos64 j = sin64 (j + 16) ∧
    (j ≤ 32 → sin64 (32 - j) = sin64 j) ∧ -127 ≤ sin64 j ∧ sin64 j ≤ 127

/-- FFT (R117, with R115, R116, R118, R119): from the bit-reversed input, six stages whose every butterfly obeys the equations
of R116, in whatever order; nothing outside RE and IM changes but STATUS (R120). -/
def Obligations.FftObeysButterflyEquations : Prop :=
  ∀ (inv scale : Bool) (s : State), ∃ c : Nat → Coeffs,
    (∀ i : Fin 64, (c 0).re[i] = s.re[rev6 i] ∧ (c 0).im[i] = s.im[rev6 i]) ∧
    (∀ t, t < 6 → StageRule inv scale t (c t) (c (t + 1))) ∧
    Completes (.fft inv scale) s { s with re := (c 6).re, im := (c 6).im }

/-- The corner case of R117 and its example, for every impulse: RE[0] = v and all else 0 gives v in every RE[k], halved at
each of the six stages where SCALE = 1, and IM = 0, in both directions. -/
def Obligations.FftOfImpulseIsFlat : Prop :=
  ∀ (inv scale : Bool) (v : Byte) (s : State), s.re[(0 : Fin 64)] = v →
    (∀ i : Fin 64, i ≠ 0 → s.re[i] = 0) → (∀ i : Fin 64, s.im[i] = 0) →
    ∃ t, exec (.fft inv scale) s = .next t ∧
      ∀ k : Fin 64, (t.re[k]).toInt = (if scale then v.toInt / 64 else v.toInt) ∧ t.im[k] = 0

/-! ## The magnitude mapper -/

/-- The inferences R141 and R142 mark as their own: isqrt is the integer square root of every 16-bit operand; a power is at
most 32768 and a magnitude at most 181, and 181 only at the corner. -/
def Obligations.IsqrtIsFloorSquareRoot : Prop :=
  (∀ p : Nat, p < 65536 → isqrt p * isqrt p ≤ p ∧ p < (isqrt p + 1) * (isqrt p + 1)) ∧
  ∀ re im : Byte, power re im ≤ 32768 ∧ isqrt (power re im) ≤ 181 ∧
    (isqrt (power re im) = 181 ↔ re.toInt = -128 ∧ im.toInt = -128)

/-- MAG (R147, with R143 to R145): MAG[k] is the integer square root of RE[k]^2 + IM[k]^2; LEVEL[k] is the threshold
quantizer's with TONE_MODE = Off and the linear quantizer's in both tone modes; nothing else changes but STATUS. -/
def Obligations.MagComputesMagnitudesAndLevels : Prop :=
  ∀ s : State, ∃ (mag : Vector Byte 32) (level : Vector Level 32),
    Completes .mag s { s with mag := mag, level := level } ∧
    ∀ k : Fin 32,
      let re := s.re[lowerHalf k].toInt
      let im := s.im[lowerHalf k].toInt
      let m : Int := mag[k].toNat
      let l := level[k].toNat
      m * m ≤ re * re + im * im ∧ re * re + im * im < (m + 1) * (m + 1) ∧
      (s.toneMode = .off → l ≤ s.lmaxSpec.toNat ∧
        (∀ i : Fin 15, i.val < l → (s.thr[i].toNat : Int) ≤ m) ∧
        (∀ i : Fin 15, i.val = l → l < s.lmaxSpec.toNat → m < s.thr[i].toNat)) ∧
      (s.toneMode ≠ .off →
        (l : Int) = min (max (m / 2 ^ s.toneShift.toNat - s.toneSub.toNat) 0) s.lmaxTone.toNat)

/-- R144 and R145: a larger magnitude never maps to a strictly smaller level, for the threshold quantizer where the table
ascends, for the linear one always. -/
def Obligations.QuantizersAreMonotonic : Prop :=
  ∀ m₁ m₂ : Nat, m₁ ≤ m₂ →
    (∀ (thr : Vector Byte 15) (lm : Nat), Ascending thr → qthr thr lm m₁ ≤ qthr thr lm m₂) ∧
    (∀ shift sub lt : Nat, qlin shift sub lt m₁ ≤ qlin shift sub lt m₂)

/-- MAG reads nothing but its listed operands (R147 "bins 32..63 are not read"; R143 "MODE.DISP does not select the
quantizer"): two states that agree on them get the same MAG and LEVEL. -/
def Obligations.MagReadsOnlyItsOperands : Prop :=
  ∀ s u : State, (∀ k : Fin 32, s.re[lowerHalf k] = u.re[lowerHalf k] ∧ s.im[lowerHalf k] = u.im[lowerHalf k]) →
    s.toneMode = u.toneMode → s.qcfg = u.qcfg → s.thr = u.thr →
    ∃ s' u', exec .mag s = .next s' ∧ exec .mag u = .next u' ∧ s'.mag = u'.mag ∧ s'.level = u'.level

/-! ## The display -/

/-- UPDATE (R162, R161, R160): every column by the rule's three cases, and nothing else but STATUS changes. -/
def Obligations.UpdateMergesLevels : Prop :=
  ∀ s : State, ∃ (cur peak : Vector Level 32) (dcnt : Vector Byte 32),
    Completes .update s { s with cur := cur, peak := peak, dcnt := dcnt } ∧
    ∀ d : Fin 32,
      let lvl := s.level[s.band[d].toFin].toNat
      let p := s.peak[d].toNat
      let n := s.dcnt[d].toNat
      let deff := max s.droop.toNat 1
      cur[d].toNat = lvl ∧
      (p < lvl → peak[d].toNat = lvl ∧ dcnt[d].toNat = 0) ∧
      (lvl ≤ p → deff ≤ n + 1 → peak[d].toNat = (if lvl < p then p - 1 else p) ∧ dcnt[d].toNat = 0) ∧
      (lvl ≤ p → n + 1 < deff → peak[d].toNat = p ∧ dcnt[d].toNat = n + 1)

/-- R163 (a) to (c): after every UPDATE PEAK >= CUR; a level not above the peak does not raise it; without an attack the peak
falls by at most one. -/
def Obligations.PeakDecayProperties : Prop :=
  ∀ s : State, ∃ t, exec .update s = .next t ∧ ∀ d : Fin 32,
    t.cur[d].toNat ≤ t.peak[d].toNat ∧
    (t.cur[d].toNat ≤ s.peak[d].toNat → t.peak[d].toNat ≤ s.peak[d].toNat ∧ s.peak[d].toNat ≤ t.peak[d].toNat + 1) ∧
    (t.peak[d].toNat < s.peak[d].toNat → t.dcnt[d] = 0 ∧ max s.droop.toNat 1 ≤ s.dcnt[d].toNat + 1)

/-- R163 (d): from PEAK = P and DCNT = 0, with level 0 every frame, PEAK reaches 0 after exactly P x Deff UPDATEs. -/
def Obligations.PeakReachesZeroAfterExactly : Prop :=
  ∀ (s : State) (d : Fin 32), s.dcnt[d] = 0 → s.level[s.band[d].toFin] = 0 →
    ∀ n : Nat, ∃ t, execTimes .update n s = .next t ∧
      (t.peak[d] = 0 ↔ s.peak[d].toNat * max s.droop.toNat 1 ≤ n)

/-- RENDER (R166, with R164, R165, R167, R168): every bit of every row, in Fill and Dot, Normal and Mirrored, from CUR or
PEAK; nothing else changes but STATUS. -/
def Obligations.RenderDrawsColumns : Prop :=
  ∀ s : State, ∃ fb : Vector Word 8, Completes .render s { s with fb := fb } ∧
    ∀ (r : Fin 8) (d : Fin 32),
      let p := if s.ctrl.getLsbD 1 then 31 - d.val else d.val
      let v := if s.ctrl.getLsbD 2 then s.peak[d].toNat else s.cur[d].toNat
      let pk := s.peak[d].toNat
      fb[r].getLsbD p =
        if s.ctrl.getLsbD 0 then decide (1 ≤ pk ∧ r.val = min pk 8 - 1) else decide (r.val + 1 ≤ v)

/-- SCOPE (R169, R170): column c lights the one row that bits 7:5 of RE[c], bit 7 inverted, name; RE[32..63], CTRL and BAND
play no part; nothing else changes but STATUS. -/
def Obligations.ScopeDrawsSamples : Prop :=
  ∀ s : State, ∃ fb : Vector Word 8, Completes .scope s { s with fb := fb } ∧
    ∀ (r : Fin 8) (c : Fin 32),
      fb[r].getLsbD c.val = decide (r.val = (s.re[lowerHalf c] ^^^ 0x80#8).toNat / 32) ∧
      fb[r].getLsbD c.val = decide ((s.re[lowerHalf c].toInt + 128) / 32 = r.val)

/-- CLRDISP (R171, R172): every CUR, PEAK, DCNT and FB element becomes 0, and nothing else changes but STATUS. -/
def Obligations.ClrdispResetsDisplay : Prop :=
  ∀ s : State, ∃ (cur peak : Vector Level 32) (dcnt : Vector Byte 32) (fb : Vector Word 8),
    Completes .clrdisp s { s with cur := cur, peak := peak, dcnt := dcnt, fb := fb } ∧
    (∀ d : Fin 32, cur[d] = 0 ∧ peak[d] = 0 ∧ dcnt[d] = 0) ∧ ∀ r : Fin 8, fb[r] = 0

/-- Display state changes by nothing else (R25, R28, R29): FB only by RENDER, SCOPE, FRAME and the display-state reset; CUR,
PEAK, DCNT only by UPDATE, FRAME and the display-state reset. -/
def Obligations.DisplayStateWriters : Prop :=
  ∀ (i : Instr) (s t : State), exec i s = .next t →
    (t.fb ≠ s.fb → i ∈ [.render, .scope, .frame, .clrdisp, .btnMode, .btnDisp]) ∧
    (t.cur ≠ s.cur ∨ t.peak ≠ s.peak ∨ t.dcnt ≠ s.dcnt → i ∈ [.update, .frame, .clrdisp, .btnMode, .btnDisp])

/-- Who writes the data arrays (the column "writes" of R93, and R65): RE by BITREV, FFT, FRAME and host writes of RE; IM by
those, CLRIM and host writes of IM; MAG by MAG and FRAME; LEVEL by those and host writes of LEVEL. -/
def Obligations.DataArrayWriters : Prop :=
  ∀ (i : Instr) (s t : State), exec i s = .next t →
    (t.re ≠ s.re → i ∈ [.bitrev, .frame] ∨ (∃ a b, i = .fft a b) ∨
      ∃ a v, i = .wr a v ∧ 0x040 ≤ a.toNat ∧ a.toNat ≤ 0x07F) ∧
    (t.im ≠ s.im → i ∈ [.bitrev, .frame, .clrim] ∨ (∃ a b, i = .fft a b) ∨
      ∃ a v, i = .wr a v ∧ 0x080 ≤ a.toNat ∧ a.toNat ≤ 0x0BF) ∧
    (t.mag ≠ s.mag → i ∈ [.mag, .frame]) ∧
    (t.level ≠ s.level → i ∈ [.mag, .frame] ∨ ∃ a v, i = .wr a v ∧ 0x0E0 ≤ a.toNat ∧ a.toNat ≤ 0x0FF)

/-! ## Modes and the tone sweep -/

/-- BTN_MODE (R192, R193, R191 with HAS_BUZZER = 1): the next tone mode, the sweep restarted, the display reset, and nothing
else but STATUS; and the same body with HAS_BUZZER = 0 goes from ToneDirect to Off. -/
def Obligations.BtnModeAdvancesToneMode : Prop :=
  (∀ s : State, ∃ (cur peak : Vector Level 32) (dcnt : Vector Byte 32) (fb : Vector Word 8),
    Completes .btnMode s { s with
      toneMode := (if s.toneMode = .off then .toneDirect else if s.toneMode = .toneDirect then .toneBuzzer else .off),
      idx := 1, tcnt := 0, cur := cur, peak := peak, dcnt := dcnt, fb := fb } ∧
    (∀ d : Fin 32, cur[d] = 0 ∧ peak[d] = 0 ∧ dcnt[d] = 0) ∧ ∀ r : Fin 8, fb[r] = 0) ∧
  (∀ s : State, s.toneMode ≠ .toneBuzzer →
    (btnModeWith false s).toneMode = if s.toneMode = .off then .toneDirect else .off)

/-- Three BTN_MODE commands return TONE_MODE to its starting value (R192). -/
def Obligations.ThreeBtnModesReturn : Prop :=
  ∀ s : State, ∃ t, execTimes .btnMode 3 s = .next t ∧ t.toneMode = s.toneMode ∧ t.disp = s.disp

/-- BTN_DISP (R194): DISP toggles, the display is reset in both directions, and nothing else but STATUS changes. -/
def Obligations.BtnDispTogglesDisplay : Prop :=
  ∀ s : State, ∃ (cur peak : Vector Level 32) (dcnt : Vector Byte 32) (fb : Vector Word 8),
    Completes .btnDisp s { s with
      disp := (if s.disp = .spectrum then .oscilloscope else .spectrum), cur := cur, peak := peak, dcnt := dcnt, fb := fb } ∧
    (∀ d : Fin 32, cur[d] = 0 ∧ peak[d] = 0 ∧ dcnt[d] = 0) ∧ ∀ r : Fin 8, fb[r] = 0

/-- MODE changes only by the two buttons (R36, R190): TONE_MODE only by BTN_MODE, DISP only by BTN_DISP; bias_sel, and tone_en
with it, change when and only when a BTN_MODE enters or leaves Off (R195), and tone_sel only by a BTN_MODE. -/
def Obligations.ModeChangesOnlyByButtons : Prop :=
  ∀ (i : Instr) (s t : State), exec i s = .next t →
    (s.biasSel = true ↔ s.toneMode ≠ .off) ∧
    (t.toneMode ≠ s.toneMode → i = .btnMode) ∧ (t.disp ≠ s.disp → i = .btnDisp) ∧
    (t.biasSel ≠ s.biasSel ↔ i = .btnMode ∧ (s.toneMode = .off ∨ t.toneMode = .off)) ∧
    (t.toneEn ≠ s.toneEn ↔ i = .btnMode ∧ (s.toneMode = .off ∨ t.toneMode = .off)) ∧
    (t.toneSel ≠ s.toneSel ↔ t.toneMode ≠ s.toneMode)

/-- TICK (R196): the sweep counts only in a tone mode, steps after max(STEP_FRAMES, 1) frames, and wraps from max(FMAX, 1) to
1; nothing else changes but STATUS. -/
def Obligations.TickAdvancesSweep : Prop :=
  ∀ s : State, ∃ idx tcnt : Byte, Completes .tick s { s with idx := idx, tcnt := tcnt } ∧
    let fm := max s.fmax.toNat 1
    let st := max s.stepFrames.toNat 1
    (s.toneMode = .off → idx = s.idx ∧ tcnt = s.tcnt) ∧
    (s.toneMode ≠ .off → st ≤ s.tcnt.toNat + 1 → tcnt.toNat = 0 ∧
      idx.toNat = if fm ≤ s.idx.toNat then 1 else s.idx.toNat + 1) ∧
    (s.toneMode ≠ .off → s.tcnt.toNat + 1 < st → tcnt.toNat = s.tcnt.toNat + 1 ∧ idx = s.idx)

/-- R197: from IDX = 1, TCNT = 0 in a tone mode, after n TICKs IDX is the n / St-th of 1, 2, …, Fm, 1, 2, …: each value is held
for exactly St TICKs, none is skipped, and the wrap is to 1 after Fm x St TICKs. -/
def Obligations.SweepVisitsEveryIndexInOrder : Prop :=
  ∀ s : State, s.toneMode ≠ .off → s.idx = 1 → s.tcnt = 0 → ∀ n : Nat, ∃ t, execTimes .tick n s = .next t ∧
    t.idx.toNat = n / max s.stepFrames.toNat 1 % max s.fmax.toNat 1 + 1 ∧
    t.tcnt.toNat = n % max s.stepFrames.toNat 1

/-- R199: tone_hp changes only at a TICK (FRAME performs one), a BTN_MODE, or a host write of TONE_K. -/
def Obligations.ToneHalfPeriodWriters : Prop :=
  ∀ (i : Instr) (s t : State), exec i s = .next t → t.toneHp ≠ s.toneHp →
    i ∈ [.tick, .frame, .btnMode] ∨ ∃ v, i = .wr 0x007#9 v

/-- R198 with the reset values: TONE_HP is TONE_K div IDX, and the 32 half-periods of a cycle are all distinct. -/
def Obligations.HalfPeriodsAreDistinct : Prop :=
  (∀ s : State, s.idx ≠ 0 → s.toneHp.toNat = s.toneK.toNat / s.idx.toNat) ∧
  ∀ i j : Byte, 1 ≤ i.toNat → i.toNat ≤ 32 → 1 ≤ j.toNat → j.toNat ≤ 32 → i ≠ j →
    ({ State.reset with idx := i } : State).toneHp ≠ ({ State.reset with idx := j } : State).toneHp

/-! ## Frames of the pipeline -/

/-- FRAME (R222): it leaves what its parts leave one after another, in the path MODE.DISP selects, then TICK. -/
def Obligations.FrameIsItsParts : Prop :=
  ∀ s : State,
    (s.disp = .spectrum → ∃ s₁ s₂ s₃ s₄ s₅ t, exec .clrim s = .next s₁ ∧ exec (.fft false true) s₁ = .next s₂ ∧
      exec .mag s₂ = .next s₃ ∧ exec .update s₃ = .next s₄ ∧ exec .render s₄ = .next s₅ ∧ exec .tick s₅ = .next t ∧
      exec .frame s = .next t) ∧
    (s.disp = .oscilloscope → ∃ s₁ t, exec .scope s = .next s₁ ∧ exec .tick s₁ = .next t ∧ exec .frame s = .next t)

/-- R223: a host that issues the single commands in order, each after the previous has completed, leaves the state a FRAME
leaves. -/
def Obligations.FrameEqualsCommandSequence : Prop :=
  ∀ s : State, Idle s →
    let issue := fun w : Word => [Input.bus (busWord true 0x003#9 w), Input.engine]
    (s.disp = .spectrum → ∃ t,
      Sys2Proof.core.run 2 { s with inputs := issue 0x0C } = .next t ∧
      Sys2Proof.core.run 12 { s with inputs := issue 0x01 ++ issue 0x23 ++ issue 0x04 ++ issue 0x05 ++ issue 0x06 ++ issue 0x0B }
        = .next t) ∧
    (s.disp = .oscilloscope → ∃ t,
      Sys2Proof.core.run 2 { s with inputs := issue 0x0C } = .next t ∧
      Sys2Proof.core.run 4 { s with inputs := issue 0x07 ++ issue 0x0B } = .next t)

/-- A silent frame drives every magnitude to 0 and, where the first threshold is above 0, every level and every CUR to 0
(R147, §8), in spectrum display with the tone off; and every row of the framebuffer to 0 where the bars are filled from CUR
(with DOT or FSRC set a held peak is drawn). -/
def Obligations.SilentFrameIsDark : Prop :=
  ∀ s : State, s.disp = .spectrum → s.toneMode = .off → 0 < (s.thr[(0 : Fin 15)]).toNat → (∀ i : Fin 64, s.re[i] = 0) →
    ∃ t, exec .frame s = .next t ∧ (∀ k : Fin 32, t.mag[k] = 0 ∧ t.level[k] = 0 ∧ t.cur[k] = 0) ∧
      (s.ctrl.getLsbD 0 = false → s.ctrl.getLsbD 2 = false → ∀ r : Fin 8, t.fb[r] = 0)

/-! ## The output ports -/

/-- R44: each output port as a function of the state, out of reset. -/
def Obligations.OutputPortsFollowState : Prop :=
  ∀ s : State, s.rstN = true →
    s.irq = (s.ctrl.getLsbD 3 && s.done) ∧
    (s.idx ≠ 0 → s.toneHp.toNat = s.toneK.toNat / s.idx.toNat) ∧
    (s.toneEn = true ↔ s.toneMode ≠ .off) ∧
    s.toneSel.toNat = (if s.toneMode = .off then 0 else if s.toneMode = .toneDirect then 1 else 2) ∧
    (s.biasSel = true ↔ s.toneMode ≠ .off)
end

