-- ==== Sys2Proof/Laws/Decode.lean ====
section
/-! SUPPORT. The fields of an encoded word are the fields it was built from, and the words of both formats fit them (R90). -/

namespace Sys2Proof

@[simp] theorem cmdOp_cmdWord : ∀ (s i : Bool) (op : BitVec 4), cmdOp (cmdWord s i op) = op := by decide
@[simp] theorem cmdInv_cmdWord : ∀ (s i : Bool) (op : BitVec 4), cmdInv (cmdWord s i op) = i := by decide
@[simp] theorem cmdScale_cmdWord : ∀ (s i : Bool) (op : BitVec 4), cmdScale (cmdWord s i op) = s := by decide
@[simp] theorem cmdReserved_cmdWord : ∀ (s i : Bool) (op : BitVec 4), cmdReserved (cmdWord s i op) = 0 := by decide

theorem getLsbD_busWord (we : Bool) (a : Addr) (d : Word) (j : Nat) :
    (busWord we a d).getLsbD j =
      if j < 32 then d.getLsbD j else if j < 41 then a.getLsbD (j - 32) else decide (j = 41) && we := by
  change (BitVec.ofBool we ++ a ++ d : BitVec (1 + 9 + 32)).getLsbD j = _
  rw [BitVec.getLsbD_append, BitVec.getLsbD_append, BitVec.getLsbD_ofBool]
  by_cases h1 : j < 32
  · simp [h1]
  · by_cases h2 : j < 41
    · simp [h1, h2, show j - 32 < 9 by omega]
    · simp [h1, h2, show ¬ j - 32 < 9 by omega, show (j - 32 - 9 = 0) ↔ (j = 41) by omega]

@[simp] theorem busWe_busWord (we : Bool) (a : Addr) (d : Word) : busWe (busWord we a d) = we := by
  have h := getLsbD_busWord we a d 41
  simpa [busWe, BitVec.getLsbD_eq_getElem (i := 41) (by decide : 41 < 42)] using h

@[simp] theorem busAddr_busWord (we : Bool) (a : Addr) (d : Word) : busAddr (busWord we a d) = a := by
  apply BitVec.eq_of_getLsbD_eq
  intro j hj
  rw [busAddr, BitVec.getLsbD_extractLsb', getLsbD_busWord]
  simp [hj, show ¬ 32 + j < 32 by omega, show 32 + j < 41 by omega]

@[simp] theorem busData_busWord (we : Bool) (a : Addr) (d : Word) : busData (busWord we a d) = d := by
  apply BitVec.eq_of_getLsbD_eq
  intro j hj
  rw [busData, BitVec.getLsbD_extractLsb', getLsbD_busWord]
  simp [hj]

/-- A BUS word is the word of its three fields. -/
theorem busWord_fields (b : BusWord) : busWord (busWe b) (busAddr b) (busData b) = b := by
  apply BitVec.eq_of_getLsbD_eq
  intro j hj
  rw [getLsbD_busWord, busWe, busAddr, busData, BitVec.getLsbD_extractLsb', BitVec.getLsbD_extractLsb']
  by_cases h1 : j < 32
  · simp [h1]
  · by_cases h2 : j < 41
    · simp [h1, h2, show j - 32 < 9 by omega, show 32 + (j - 32) = j by omega]
    · have : j = 41 := by omega
      subst this
      simp

end Sys2Proof
end

