-- ==== Sys2Proof/Laws/State.lean ====
section
/-! SUPPORT. One lemma per field per shared update of the state, each true by unfolding the update. -/

namespace Sys2Proof.Machine

variable (s : State)

/-! ## complete -/

@[simp] theorem complete_ctrl : (complete s).ctrl = s.ctrl := rfl
@[simp] theorem complete_done : (complete s).done = true := rfl
@[simp] theorem complete_errCmd : (complete s).errCmd = s.errCmd := rfl
@[simp] theorem complete_errBusy : (complete s).errBusy = s.errBusy := rfl
@[simp] theorem complete_droop : (complete s).droop = s.droop := rfl
@[simp] theorem complete_lmaxSpec : (complete s).lmaxSpec = s.lmaxSpec := rfl
@[simp] theorem complete_lmaxTone : (complete s).lmaxTone = s.lmaxTone := rfl
@[simp] theorem complete_toneShift : (complete s).toneShift = s.toneShift := rfl
@[simp] theorem complete_toneSub : (complete s).toneSub = s.toneSub := rfl
@[simp] theorem complete_fmax : (complete s).fmax = s.fmax := rfl
@[simp] theorem complete_stepFrames : (complete s).stepFrames = s.stepFrames := rfl
@[simp] theorem complete_toneK : (complete s).toneK = s.toneK := rfl
@[simp] theorem complete_toneMode : (complete s).toneMode = s.toneMode := rfl
@[simp] theorem complete_disp : (complete s).disp = s.disp := rfl
@[simp] theorem complete_idx : (complete s).idx = s.idx := rfl
@[simp] theorem complete_tcnt : (complete s).tcnt = s.tcnt := rfl
@[simp] theorem complete_re : (complete s).re = s.re := rfl
@[simp] theorem complete_im : (complete s).im = s.im := rfl
@[simp] theorem complete_mag : (complete s).mag = s.mag := rfl
@[simp] theorem complete_level : (complete s).level = s.level := rfl
@[simp] theorem complete_cur : (complete s).cur = s.cur := rfl
@[simp] theorem complete_peak : (complete s).peak = s.peak := rfl
@[simp] theorem complete_dcnt : (complete s).dcnt = s.dcnt := rfl
@[simp] theorem complete_fb : (complete s).fb = s.fb := rfl
@[simp] theorem complete_thr : (complete s).thr = s.thr := rfl
@[simp] theorem complete_band : (complete s).band = s.band := rfl
@[simp] theorem complete_pending : (complete s).pending = none := rfl
@[simp] theorem complete_rstN : (complete s).rstN = s.rstN := rfl
@[simp] theorem complete_inputs : (complete s).inputs = s.inputs := rfl
@[simp] theorem complete_reads : (complete s).reads = s.reads := rfl
@[simp] theorem complete_draws : (complete s).draws = s.draws := rfl

/-! ## acceptCommand -/

@[simp] theorem acceptCommand_ctrl (w : Word) : (acceptCommand w s).ctrl = s.ctrl := rfl
@[simp] theorem acceptCommand_done (w : Word) : (acceptCommand w s).done = false := rfl
@[simp] theorem acceptCommand_errCmd (w : Word) : (acceptCommand w s).errCmd = s.errCmd := rfl
@[simp] theorem acceptCommand_errBusy (w : Word) : (acceptCommand w s).errBusy = s.errBusy := rfl
@[simp] theorem acceptCommand_droop (w : Word) : (acceptCommand w s).droop = s.droop := rfl
@[simp] theorem acceptCommand_lmaxSpec (w : Word) : (acceptCommand w s).lmaxSpec = s.lmaxSpec := rfl
@[simp] theorem acceptCommand_lmaxTone (w : Word) : (acceptCommand w s).lmaxTone = s.lmaxTone := rfl
@[simp] theorem acceptCommand_toneShift (w : Word) : (acceptCommand w s).toneShift = s.toneShift := rfl
@[simp] theorem acceptCommand_toneSub (w : Word) : (acceptCommand w s).toneSub = s.toneSub := rfl
@[simp] theorem acceptCommand_fmax (w : Word) : (acceptCommand w s).fmax = s.fmax := rfl
@[simp] theorem acceptCommand_stepFrames (w : Word) : (acceptCommand w s).stepFrames = s.stepFrames := rfl
@[simp] theorem acceptCommand_toneK (w : Word) : (acceptCommand w s).toneK = s.toneK := rfl
@[simp] theorem acceptCommand_toneMode (w : Word) : (acceptCommand w s).toneMode = s.toneMode := rfl
@[simp] theorem acceptCommand_disp (w : Word) : (acceptCommand w s).disp = s.disp := rfl
@[simp] theorem acceptCommand_idx (w : Word) : (acceptCommand w s).idx = s.idx := rfl
@[simp] theorem acceptCommand_tcnt (w : Word) : (acceptCommand w s).tcnt = s.tcnt := rfl
@[simp] theorem acceptCommand_re (w : Word) : (acceptCommand w s).re = s.re := rfl
@[simp] theorem acceptCommand_im (w : Word) : (acceptCommand w s).im = s.im := rfl
@[simp] theorem acceptCommand_mag (w : Word) : (acceptCommand w s).mag = s.mag := rfl
@[simp] theorem acceptCommand_level (w : Word) : (acceptCommand w s).level = s.level := rfl
@[simp] theorem acceptCommand_cur (w : Word) : (acceptCommand w s).cur = s.cur := rfl
@[simp] theorem acceptCommand_peak (w : Word) : (acceptCommand w s).peak = s.peak := rfl
@[simp] theorem acceptCommand_dcnt (w : Word) : (acceptCommand w s).dcnt = s.dcnt := rfl
@[simp] theorem acceptCommand_fb (w : Word) : (acceptCommand w s).fb = s.fb := rfl
@[simp] theorem acceptCommand_thr (w : Word) : (acceptCommand w s).thr = s.thr := rfl
@[simp] theorem acceptCommand_band (w : Word) : (acceptCommand w s).band = s.band := rfl
@[simp] theorem acceptCommand_pending (w : Word) : (acceptCommand w s).pending = some w := rfl
@[simp] theorem acceptCommand_rstN (w : Word) : (acceptCommand w s).rstN = s.rstN := rfl
@[simp] theorem acceptCommand_inputs (w : Word) : (acceptCommand w s).inputs = s.inputs := rfl
@[simp] theorem acceptCommand_reads (w : Word) : (acceptCommand w s).reads = s.reads := rfl
@[simp] theorem acceptCommand_draws (w : Word) : (acceptCommand w s).draws = s.draws := rfl

/-! ## resetDisplay -/

@[simp] theorem resetDisplay_ctrl : (resetDisplay s).ctrl = s.ctrl := rfl
@[simp] theorem resetDisplay_done : (resetDisplay s).done = s.done := rfl
@[simp] theorem resetDisplay_errCmd : (resetDisplay s).errCmd = s.errCmd := rfl
@[simp] theorem resetDisplay_errBusy : (resetDisplay s).errBusy = s.errBusy := rfl
@[simp] theorem resetDisplay_droop : (resetDisplay s).droop = s.droop := rfl
@[simp] theorem resetDisplay_lmaxSpec : (resetDisplay s).lmaxSpec = s.lmaxSpec := rfl
@[simp] theorem resetDisplay_lmaxTone : (resetDisplay s).lmaxTone = s.lmaxTone := rfl
@[simp] theorem resetDisplay_toneShift : (resetDisplay s).toneShift = s.toneShift := rfl
@[simp] theorem resetDisplay_toneSub : (resetDisplay s).toneSub = s.toneSub := rfl
@[simp] theorem resetDisplay_fmax : (resetDisplay s).fmax = s.fmax := rfl
@[simp] theorem resetDisplay_stepFrames : (resetDisplay s).stepFrames = s.stepFrames := rfl
@[simp] theorem resetDisplay_toneK : (resetDisplay s).toneK = s.toneK := rfl
@[simp] theorem resetDisplay_toneMode : (resetDisplay s).toneMode = s.toneMode := rfl
@[simp] theorem resetDisplay_disp : (resetDisplay s).disp = s.disp := rfl
@[simp] theorem resetDisplay_idx : (resetDisplay s).idx = s.idx := rfl
@[simp] theorem resetDisplay_tcnt : (resetDisplay s).tcnt = s.tcnt := rfl
@[simp] theorem resetDisplay_re : (resetDisplay s).re = s.re := rfl
@[simp] theorem resetDisplay_im : (resetDisplay s).im = s.im := rfl
@[simp] theorem resetDisplay_mag : (resetDisplay s).mag = s.mag := rfl
@[simp] theorem resetDisplay_level : (resetDisplay s).level = s.level := rfl
@[simp] theorem resetDisplay_cur : (resetDisplay s).cur = Vector.replicate 32 0 := rfl
@[simp] theorem resetDisplay_peak : (resetDisplay s).peak = Vector.replicate 32 0 := rfl
@[simp] theorem resetDisplay_dcnt : (resetDisplay s).dcnt = Vector.replicate 32 0 := rfl
@[simp] theorem resetDisplay_fb : (resetDisplay s).fb = Vector.replicate 8 0 := rfl
@[simp] theorem resetDisplay_thr : (resetDisplay s).thr = s.thr := rfl
@[simp] theorem resetDisplay_band : (resetDisplay s).band = s.band := rfl
@[simp] theorem resetDisplay_pending : (resetDisplay s).pending = s.pending := rfl
@[simp] theorem resetDisplay_rstN : (resetDisplay s).rstN = s.rstN := rfl
@[simp] theorem resetDisplay_inputs : (resetDisplay s).inputs = s.inputs := rfl
@[simp] theorem resetDisplay_reads : (resetDisplay s).reads = s.reads := rfl
@[simp] theorem resetDisplay_draws : (resetDisplay s).draws = s.draws := rfl

/-! ## clearStatus -/

@[simp] theorem clearStatus_ctrl (v : Word) : (clearStatus v s).ctrl = s.ctrl := rfl
@[simp] theorem clearStatus_done (v : Word) : (clearStatus v s).done = (s.done && !v[1]) := rfl
@[simp] theorem clearStatus_errCmd (v : Word) : (clearStatus v s).errCmd = (s.errCmd && !v[2]) := rfl
@[simp] theorem clearStatus_errBusy (v : Word) : (clearStatus v s).errBusy = (s.errBusy && !v[3]) := rfl
@[simp] theorem clearStatus_droop (v : Word) : (clearStatus v s).droop = s.droop := rfl
@[simp] theorem clearStatus_lmaxSpec (v : Word) : (clearStatus v s).lmaxSpec = s.lmaxSpec := rfl
@[simp] theorem clearStatus_lmaxTone (v : Word) : (clearStatus v s).lmaxTone = s.lmaxTone := rfl
@[simp] theorem clearStatus_toneShift (v : Word) : (clearStatus v s).toneShift = s.toneShift := rfl
@[simp] theorem clearStatus_toneSub (v : Word) : (clearStatus v s).toneSub = s.toneSub := rfl
@[simp] theorem clearStatus_fmax (v : Word) : (clearStatus v s).fmax = s.fmax := rfl
@[simp] theorem clearStatus_stepFrames (v : Word) : (clearStatus v s).stepFrames = s.stepFrames := rfl
@[simp] theorem clearStatus_toneK (v : Word) : (clearStatus v s).toneK = s.toneK := rfl
@[simp] theorem clearStatus_toneMode (v : Word) : (clearStatus v s).toneMode = s.toneMode := rfl
@[simp] theorem clearStatus_disp (v : Word) : (clearStatus v s).disp = s.disp := rfl
@[simp] theorem clearStatus_idx (v : Word) : (clearStatus v s).idx = s.idx := rfl
@[simp] theorem clearStatus_tcnt (v : Word) : (clearStatus v s).tcnt = s.tcnt := rfl
@[simp] theorem clearStatus_re (v : Word) : (clearStatus v s).re = s.re := rfl
@[simp] theorem clearStatus_im (v : Word) : (clearStatus v s).im = s.im := rfl
@[simp] theorem clearStatus_mag (v : Word) : (clearStatus v s).mag = s.mag := rfl
@[simp] theorem clearStatus_level (v : Word) : (clearStatus v s).level = s.level := rfl
@[simp] theorem clearStatus_cur (v : Word) : (clearStatus v s).cur = s.cur := rfl
@[simp] theorem clearStatus_peak (v : Word) : (clearStatus v s).peak = s.peak := rfl
@[simp] theorem clearStatus_dcnt (v : Word) : (clearStatus v s).dcnt = s.dcnt := rfl
@[simp] theorem clearStatus_fb (v : Word) : (clearStatus v s).fb = s.fb := rfl
@[simp] theorem clearStatus_thr (v : Word) : (clearStatus v s).thr = s.thr := rfl
@[simp] theorem clearStatus_band (v : Word) : (clearStatus v s).band = s.band := rfl
@[simp] theorem clearStatus_pending (v : Word) : (clearStatus v s).pending = s.pending := rfl
@[simp] theorem clearStatus_rstN (v : Word) : (clearStatus v s).rstN = s.rstN := rfl
@[simp] theorem clearStatus_inputs (v : Word) : (clearStatus v s).inputs = s.inputs := rfl
@[simp] theorem clearStatus_reads (v : Word) : (clearStatus v s).reads = s.reads := rfl
@[simp] theorem clearStatus_draws (v : Word) : (clearStatus v s).draws = s.draws := rfl

/-! ## raise_cmd -/

@[simp] theorem raise_cmd_ctrl : (raise .cmd s).ctrl = s.ctrl := rfl
@[simp] theorem raise_cmd_done : (raise .cmd s).done = s.done := rfl
@[simp] theorem raise_cmd_errCmd : (raise .cmd s).errCmd = true := rfl
@[simp] theorem raise_cmd_errBusy : (raise .cmd s).errBusy = s.errBusy := rfl
@[simp] theorem raise_cmd_droop : (raise .cmd s).droop = s.droop := rfl
@[simp] theorem raise_cmd_lmaxSpec : (raise .cmd s).lmaxSpec = s.lmaxSpec := rfl
@[simp] theorem raise_cmd_lmaxTone : (raise .cmd s).lmaxTone = s.lmaxTone := rfl
@[simp] theorem raise_cmd_toneShift : (raise .cmd s).toneShift = s.toneShift := rfl
@[simp] theorem raise_cmd_toneSub : (raise .cmd s).toneSub = s.toneSub := rfl
@[simp] theorem raise_cmd_fmax : (raise .cmd s).fmax = s.fmax := rfl
@[simp] theorem raise_cmd_stepFrames : (raise .cmd s).stepFrames = s.stepFrames := rfl
@[simp] theorem raise_cmd_toneK : (raise .cmd s).toneK = s.toneK := rfl
@[simp] theorem raise_cmd_toneMode : (raise .cmd s).toneMode = s.toneMode := rfl
@[simp] theorem raise_cmd_disp : (raise .cmd s).disp = s.disp := rfl
@[simp] theorem raise_cmd_idx : (raise .cmd s).idx = s.idx := rfl
@[simp] theorem raise_cmd_tcnt : (raise .cmd s).tcnt = s.tcnt := rfl
@[simp] theorem raise_cmd_re : (raise .cmd s).re = s.re := rfl
@[simp] theorem raise_cmd_im : (raise .cmd s).im = s.im := rfl
@[simp] theorem raise_cmd_mag : (raise .cmd s).mag = s.mag := rfl
@[simp] theorem raise_cmd_level : (raise .cmd s).level = s.level := rfl
@[simp] theorem raise_cmd_cur : (raise .cmd s).cur = s.cur := rfl
@[simp] theorem raise_cmd_peak : (raise .cmd s).peak = s.peak := rfl
@[simp] theorem raise_cmd_dcnt : (raise .cmd s).dcnt = s.dcnt := rfl
@[simp] theorem raise_cmd_fb : (raise .cmd s).fb = s.fb := rfl
@[simp] theorem raise_cmd_thr : (raise .cmd s).thr = s.thr := rfl
@[simp] theorem raise_cmd_band : (raise .cmd s).band = s.band := rfl
@[simp] theorem raise_cmd_pending : (raise .cmd s).pending = s.pending := rfl
@[simp] theorem raise_cmd_rstN : (raise .cmd s).rstN = s.rstN := rfl
@[simp] theorem raise_cmd_inputs : (raise .cmd s).inputs = s.inputs := rfl
@[simp] theorem raise_cmd_reads : (raise .cmd s).reads = s.reads := rfl
@[simp] theorem raise_cmd_draws : (raise .cmd s).draws = s.draws := rfl

/-! ## raise_busy -/

@[simp] theorem raise_busy_ctrl : (raise .busy s).ctrl = s.ctrl := rfl
@[simp] theorem raise_busy_done : (raise .busy s).done = s.done := rfl
@[simp] theorem raise_busy_errCmd : (raise .busy s).errCmd = s.errCmd := rfl
@[simp] theorem raise_busy_errBusy : (raise .busy s).errBusy = true := rfl
@[simp] theorem raise_busy_droop : (raise .busy s).droop = s.droop := rfl
@[simp] theorem raise_busy_lmaxSpec : (raise .busy s).lmaxSpec = s.lmaxSpec := rfl
@[simp] theorem raise_busy_lmaxTone : (raise .busy s).lmaxTone = s.lmaxTone := rfl
@[simp] theorem raise_busy_toneShift : (raise .busy s).toneShift = s.toneShift := rfl
@[simp] theorem raise_busy_toneSub : (raise .busy s).toneSub = s.toneSub := rfl
@[simp] theorem raise_busy_fmax : (raise .busy s).fmax = s.fmax := rfl
@[simp] theorem raise_busy_stepFrames : (raise .busy s).stepFrames = s.stepFrames := rfl
@[simp] theorem raise_busy_toneK : (raise .busy s).toneK = s.toneK := rfl
@[simp] theorem raise_busy_toneMode : (raise .busy s).toneMode = s.toneMode := rfl
@[simp] theorem raise_busy_disp : (raise .busy s).disp = s.disp := rfl
@[simp] theorem raise_busy_idx : (raise .busy s).idx = s.idx := rfl
@[simp] theorem raise_busy_tcnt : (raise .busy s).tcnt = s.tcnt := rfl
@[simp] theorem raise_busy_re : (raise .busy s).re = s.re := rfl
@[simp] theorem raise_busy_im : (raise .busy s).im = s.im := rfl
@[simp] theorem raise_busy_mag : (raise .busy s).mag = s.mag := rfl
@[simp] theorem raise_busy_level : (raise .busy s).level = s.level := rfl
@[simp] theorem raise_busy_cur : (raise .busy s).cur = s.cur := rfl
@[simp] theorem raise_busy_peak : (raise .busy s).peak = s.peak := rfl
@[simp] theorem raise_busy_dcnt : (raise .busy s).dcnt = s.dcnt := rfl
@[simp] theorem raise_busy_fb : (raise .busy s).fb = s.fb := rfl
@[simp] theorem raise_busy_thr : (raise .busy s).thr = s.thr := rfl
@[simp] theorem raise_busy_band : (raise .busy s).band = s.band := rfl
@[simp] theorem raise_busy_pending : (raise .busy s).pending = s.pending := rfl
@[simp] theorem raise_busy_rstN : (raise .busy s).rstN = s.rstN := rfl
@[simp] theorem raise_busy_inputs : (raise .busy s).inputs = s.inputs := rfl
@[simp] theorem raise_busy_reads : (raise .busy s).reads = s.reads := rfl
@[simp] theorem raise_busy_draws : (raise .busy s).draws = s.draws := rfl

/-! ## What the shared updates do to BUSY -/

@[simp] theorem busy_complete : (complete s).busy = false := rfl
@[simp] theorem busy_acceptCommand (w : Word) : (acceptCommand w s).busy = true := rfl
@[simp] theorem busy_resetDisplay : (resetDisplay s).busy = s.busy := rfl
@[simp] theorem busy_clearStatus (v : Word) : (clearStatus v s).busy = s.busy := rfl
@[simp] theorem busy_raise (e : ErrorKind) : (raise e s).busy = s.busy := by cases e <;> rfl

/-- A completed state is the state before it with PENDING empty and DONE set, whatever those were. -/
theorem complete_complete : complete (complete s) = complete s := rfl

end Sys2Proof.Machine
end

