-- ==== Sys2Proof/Laws/Frames.lean ====
section
/-! SUPPORT. What the body of each command leaves alone, field by field (the column "writes" of 30_encoding.md R93). -/

namespace Sys2Proof.Machine

variable (s : State)

/-! ## CLRIM writes IM -/

@[simp] theorem clrim_ctrl : (clrim s).ctrl = s.ctrl := rfl
@[simp] theorem clrim_done : (clrim s).done = s.done := rfl
@[simp] theorem clrim_errCmd : (clrim s).errCmd = s.errCmd := rfl
@[simp] theorem clrim_errBusy : (clrim s).errBusy = s.errBusy := rfl
@[simp] theorem clrim_droop : (clrim s).droop = s.droop := rfl
@[simp] theorem clrim_lmaxSpec : (clrim s).lmaxSpec = s.lmaxSpec := rfl
@[simp] theorem clrim_lmaxTone : (clrim s).lmaxTone = s.lmaxTone := rfl
@[simp] theorem clrim_toneShift : (clrim s).toneShift = s.toneShift := rfl
@[simp] theorem clrim_toneSub : (clrim s).toneSub = s.toneSub := rfl
@[simp] theorem clrim_fmax : (clrim s).fmax = s.fmax := rfl
@[simp] theorem clrim_stepFrames : (clrim s).stepFrames = s.stepFrames := rfl
@[simp] theorem clrim_toneK : (clrim s).toneK = s.toneK := rfl
@[simp] theorem clrim_toneMode : (clrim s).toneMode = s.toneMode := rfl
@[simp] theorem clrim_disp : (clrim s).disp = s.disp := rfl
@[simp] theorem clrim_idx : (clrim s).idx = s.idx := rfl
@[simp] theorem clrim_tcnt : (clrim s).tcnt = s.tcnt := rfl
@[simp] theorem clrim_re : (clrim s).re = s.re := rfl
@[simp] theorem clrim_mag : (clrim s).mag = s.mag := rfl
@[simp] theorem clrim_level : (clrim s).level = s.level := rfl
@[simp] theorem clrim_cur : (clrim s).cur = s.cur := rfl
@[simp] theorem clrim_peak : (clrim s).peak = s.peak := rfl
@[simp] theorem clrim_dcnt : (clrim s).dcnt = s.dcnt := rfl
@[simp] theorem clrim_fb : (clrim s).fb = s.fb := rfl
@[simp] theorem clrim_thr : (clrim s).thr = s.thr := rfl
@[simp] theorem clrim_band : (clrim s).band = s.band := rfl
@[simp] theorem clrim_pending : (clrim s).pending = s.pending := rfl
@[simp] theorem clrim_rstN : (clrim s).rstN = s.rstN := rfl
@[simp] theorem clrim_inputs : (clrim s).inputs = s.inputs := rfl
@[simp] theorem clrim_reads : (clrim s).reads = s.reads := rfl
@[simp] theorem clrim_draws : (clrim s).draws = s.draws := rfl

/-! ## BITREV writes RE and IM -/

@[simp] theorem bitrev_ctrl : (bitrev s).ctrl = s.ctrl := rfl
@[simp] theorem bitrev_done : (bitrev s).done = s.done := rfl
@[simp] theorem bitrev_errCmd : (bitrev s).errCmd = s.errCmd := rfl
@[simp] theorem bitrev_errBusy : (bitrev s).errBusy = s.errBusy := rfl
@[simp] theorem bitrev_droop : (bitrev s).droop = s.droop := rfl
@[simp] theorem bitrev_lmaxSpec : (bitrev s).lmaxSpec = s.lmaxSpec := rfl
@[simp] theorem bitrev_lmaxTone : (bitrev s).lmaxTone = s.lmaxTone := rfl
@[simp] theorem bitrev_toneShift : (bitrev s).toneShift = s.toneShift := rfl
@[simp] theorem bitrev_toneSub : (bitrev s).toneSub = s.toneSub := rfl
@[simp] theorem bitrev_fmax : (bitrev s).fmax = s.fmax := rfl
@[simp] theorem bitrev_stepFrames : (bitrev s).stepFrames = s.stepFrames := rfl
@[simp] theorem bitrev_toneK : (bitrev s).toneK = s.toneK := rfl
@[simp] theorem bitrev_toneMode : (bitrev s).toneMode = s.toneMode := rfl
@[simp] theorem bitrev_disp : (bitrev s).disp = s.disp := rfl
@[simp] theorem bitrev_idx : (bitrev s).idx = s.idx := rfl
@[simp] theorem bitrev_tcnt : (bitrev s).tcnt = s.tcnt := rfl
@[simp] theorem bitrev_mag : (bitrev s).mag = s.mag := rfl
@[simp] theorem bitrev_level : (bitrev s).level = s.level := rfl
@[simp] theorem bitrev_cur : (bitrev s).cur = s.cur := rfl
@[simp] theorem bitrev_peak : (bitrev s).peak = s.peak := rfl
@[simp] theorem bitrev_dcnt : (bitrev s).dcnt = s.dcnt := rfl
@[simp] theorem bitrev_fb : (bitrev s).fb = s.fb := rfl
@[simp] theorem bitrev_thr : (bitrev s).thr = s.thr := rfl
@[simp] theorem bitrev_band : (bitrev s).band = s.band := rfl
@[simp] theorem bitrev_pending : (bitrev s).pending = s.pending := rfl
@[simp] theorem bitrev_rstN : (bitrev s).rstN = s.rstN := rfl
@[simp] theorem bitrev_inputs : (bitrev s).inputs = s.inputs := rfl
@[simp] theorem bitrev_reads : (bitrev s).reads = s.reads := rfl
@[simp] theorem bitrev_draws : (bitrev s).draws = s.draws := rfl

/-! ## FFT writes RE and IM -/

@[simp] theorem fft_ctrl (inv scale : Bool) : (fft inv scale s).ctrl = s.ctrl := rfl
@[simp] theorem fft_done (inv scale : Bool) : (fft inv scale s).done = s.done := rfl
@[simp] theorem fft_errCmd (inv scale : Bool) : (fft inv scale s).errCmd = s.errCmd := rfl
@[simp] theorem fft_errBusy (inv scale : Bool) : (fft inv scale s).errBusy = s.errBusy := rfl
@[simp] theorem fft_droop (inv scale : Bool) : (fft inv scale s).droop = s.droop := rfl
@[simp] theorem fft_lmaxSpec (inv scale : Bool) : (fft inv scale s).lmaxSpec = s.lmaxSpec := rfl
@[simp] theorem fft_lmaxTone (inv scale : Bool) : (fft inv scale s).lmaxTone = s.lmaxTone := rfl
@[simp] theorem fft_toneShift (inv scale : Bool) : (fft inv scale s).toneShift = s.toneShift := rfl
@[simp] theorem fft_toneSub (inv scale : Bool) : (fft inv scale s).toneSub = s.toneSub := rfl
@[simp] theorem fft_fmax (inv scale : Bool) : (fft inv scale s).fmax = s.fmax := rfl
@[simp] theorem fft_stepFrames (inv scale : Bool) : (fft inv scale s).stepFrames = s.stepFrames := rfl
@[simp] theorem fft_toneK (inv scale : Bool) : (fft inv scale s).toneK = s.toneK := rfl
@[simp] theorem fft_toneMode (inv scale : Bool) : (fft inv scale s).toneMode = s.toneMode := rfl
@[simp] theorem fft_disp (inv scale : Bool) : (fft inv scale s).disp = s.disp := rfl
@[simp] theorem fft_idx (inv scale : Bool) : (fft inv scale s).idx = s.idx := rfl
@[simp] theorem fft_tcnt (inv scale : Bool) : (fft inv scale s).tcnt = s.tcnt := rfl
@[simp] theorem fft_mag (inv scale : Bool) : (fft inv scale s).mag = s.mag := rfl
@[simp] theorem fft_level (inv scale : Bool) : (fft inv scale s).level = s.level := rfl
@[simp] theorem fft_cur (inv scale : Bool) : (fft inv scale s).cur = s.cur := rfl
@[simp] theorem fft_peak (inv scale : Bool) : (fft inv scale s).peak = s.peak := rfl
@[simp] theorem fft_dcnt (inv scale : Bool) : (fft inv scale s).dcnt = s.dcnt := rfl
@[simp] theorem fft_fb (inv scale : Bool) : (fft inv scale s).fb = s.fb := rfl
@[simp] theorem fft_thr (inv scale : Bool) : (fft inv scale s).thr = s.thr := rfl
@[simp] theorem fft_band (inv scale : Bool) : (fft inv scale s).band = s.band := rfl
@[simp] theorem fft_pending (inv scale : Bool) : (fft inv scale s).pending = s.pending := rfl
@[simp] theorem fft_rstN (inv scale : Bool) : (fft inv scale s).rstN = s.rstN := rfl
@[simp] theorem fft_inputs (inv scale : Bool) : (fft inv scale s).inputs = s.inputs := rfl
@[simp] theorem fft_reads (inv scale : Bool) : (fft inv scale s).reads = s.reads := rfl
@[simp] theorem fft_draws (inv scale : Bool) : (fft inv scale s).draws = s.draws := rfl

/-! ## MAG writes MAG and LEVEL -/

@[simp] theorem magBody_ctrl : (magBody s).ctrl = s.ctrl := rfl
@[simp] theorem magBody_done : (magBody s).done = s.done := rfl
@[simp] theorem magBody_errCmd : (magBody s).errCmd = s.errCmd := rfl
@[simp] theorem magBody_errBusy : (magBody s).errBusy = s.errBusy := rfl
@[simp] theorem magBody_droop : (magBody s).droop = s.droop := rfl
@[simp] theorem magBody_lmaxSpec : (magBody s).lmaxSpec = s.lmaxSpec := rfl
@[simp] theorem magBody_lmaxTone : (magBody s).lmaxTone = s.lmaxTone := rfl
@[simp] theorem magBody_toneShift : (magBody s).toneShift = s.toneShift := rfl
@[simp] theorem magBody_toneSub : (magBody s).toneSub = s.toneSub := rfl
@[simp] theorem magBody_fmax : (magBody s).fmax = s.fmax := rfl
@[simp] theorem magBody_stepFrames : (magBody s).stepFrames = s.stepFrames := rfl
@[simp] theorem magBody_toneK : (magBody s).toneK = s.toneK := rfl
@[simp] theorem magBody_toneMode : (magBody s).toneMode = s.toneMode := rfl
@[simp] theorem magBody_disp : (magBody s).disp = s.disp := rfl
@[simp] theorem magBody_idx : (magBody s).idx = s.idx := rfl
@[simp] theorem magBody_tcnt : (magBody s).tcnt = s.tcnt := rfl
@[simp] theorem magBody_re : (magBody s).re = s.re := rfl
@[simp] theorem magBody_im : (magBody s).im = s.im := rfl
@[simp] theorem magBody_cur : (magBody s).cur = s.cur := rfl
@[simp] theorem magBody_peak : (magBody s).peak = s.peak := rfl
@[simp] theorem magBody_dcnt : (magBody s).dcnt = s.dcnt := rfl
@[simp] theorem magBody_fb : (magBody s).fb = s.fb := rfl
@[simp] theorem magBody_thr : (magBody s).thr = s.thr := rfl
@[simp] theorem magBody_band : (magBody s).band = s.band := rfl
@[simp] theorem magBody_pending : (magBody s).pending = s.pending := rfl
@[simp] theorem magBody_rstN : (magBody s).rstN = s.rstN := rfl
@[simp] theorem magBody_inputs : (magBody s).inputs = s.inputs := rfl
@[simp] theorem magBody_reads : (magBody s).reads = s.reads := rfl
@[simp] theorem magBody_draws : (magBody s).draws = s.draws := rfl

/-! ## UPDATE writes CUR, PEAK and DCNT -/

@[simp] theorem update_ctrl : (update s).ctrl = s.ctrl := rfl
@[simp] theorem update_done : (update s).done = s.done := rfl
@[simp] theorem update_errCmd : (update s).errCmd = s.errCmd := rfl
@[simp] theorem update_errBusy : (update s).errBusy = s.errBusy := rfl
@[simp] theorem update_droop : (update s).droop = s.droop := rfl
@[simp] theorem update_lmaxSpec : (update s).lmaxSpec = s.lmaxSpec := rfl
@[simp] theorem update_lmaxTone : (update s).lmaxTone = s.lmaxTone := rfl
@[simp] theorem update_toneShift : (update s).toneShift = s.toneShift := rfl
@[simp] theorem update_toneSub : (update s).toneSub = s.toneSub := rfl
@[simp] theorem update_fmax : (update s).fmax = s.fmax := rfl
@[simp] theorem update_stepFrames : (update s).stepFrames = s.stepFrames := rfl
@[simp] theorem update_toneK : (update s).toneK = s.toneK := rfl
@[simp] theorem update_toneMode : (update s).toneMode = s.toneMode := rfl
@[simp] theorem update_disp : (update s).disp = s.disp := rfl
@[simp] theorem update_idx : (update s).idx = s.idx := rfl
@[simp] theorem update_tcnt : (update s).tcnt = s.tcnt := rfl
@[simp] theorem update_re : (update s).re = s.re := rfl
@[simp] theorem update_im : (update s).im = s.im := rfl
@[simp] theorem update_mag : (update s).mag = s.mag := rfl
@[simp] theorem update_level : (update s).level = s.level := rfl
@[simp] theorem update_fb : (update s).fb = s.fb := rfl
@[simp] theorem update_thr : (update s).thr = s.thr := rfl
@[simp] theorem update_band : (update s).band = s.band := rfl
@[simp] theorem update_pending : (update s).pending = s.pending := rfl
@[simp] theorem update_rstN : (update s).rstN = s.rstN := rfl
@[simp] theorem update_inputs : (update s).inputs = s.inputs := rfl
@[simp] theorem update_reads : (update s).reads = s.reads := rfl
@[simp] theorem update_draws : (update s).draws = s.draws := rfl

/-! ## RENDER writes FB -/

@[simp] theorem render_ctrl : (render s).ctrl = s.ctrl := rfl
@[simp] theorem render_done : (render s).done = s.done := rfl
@[simp] theorem render_errCmd : (render s).errCmd = s.errCmd := rfl
@[simp] theorem render_errBusy : (render s).errBusy = s.errBusy := rfl
@[simp] theorem render_droop : (render s).droop = s.droop := rfl
@[simp] theorem render_lmaxSpec : (render s).lmaxSpec = s.lmaxSpec := rfl
@[simp] theorem render_lmaxTone : (render s).lmaxTone = s.lmaxTone := rfl
@[simp] theorem render_toneShift : (render s).toneShift = s.toneShift := rfl
@[simp] theorem render_toneSub : (render s).toneSub = s.toneSub := rfl
@[simp] theorem render_fmax : (render s).fmax = s.fmax := rfl
@[simp] theorem render_stepFrames : (render s).stepFrames = s.stepFrames := rfl
@[simp] theorem render_toneK : (render s).toneK = s.toneK := rfl
@[simp] theorem render_toneMode : (render s).toneMode = s.toneMode := rfl
@[simp] theorem render_disp : (render s).disp = s.disp := rfl
@[simp] theorem render_idx : (render s).idx = s.idx := rfl
@[simp] theorem render_tcnt : (render s).tcnt = s.tcnt := rfl
@[simp] theorem render_re : (render s).re = s.re := rfl
@[simp] theorem render_im : (render s).im = s.im := rfl
@[simp] theorem render_mag : (render s).mag = s.mag := rfl
@[simp] theorem render_level : (render s).level = s.level := rfl
@[simp] theorem render_cur : (render s).cur = s.cur := rfl
@[simp] theorem render_peak : (render s).peak = s.peak := rfl
@[simp] theorem render_dcnt : (render s).dcnt = s.dcnt := rfl
@[simp] theorem render_thr : (render s).thr = s.thr := rfl
@[simp] theorem render_band : (render s).band = s.band := rfl
@[simp] theorem render_pending : (render s).pending = s.pending := rfl
@[simp] theorem render_rstN : (render s).rstN = s.rstN := rfl
@[simp] theorem render_inputs : (render s).inputs = s.inputs := rfl
@[simp] theorem render_reads : (render s).reads = s.reads := rfl
@[simp] theorem render_draws : (render s).draws = s.draws := rfl

/-! ## SCOPE writes FB -/

@[simp] theorem scope_ctrl : (scope s).ctrl = s.ctrl := rfl
@[simp] theorem scope_done : (scope s).done = s.done := rfl
@[simp] theorem scope_errCmd : (scope s).errCmd = s.errCmd := rfl
@[simp] theorem scope_errBusy : (scope s).errBusy = s.errBusy := rfl
@[simp] theorem scope_droop : (scope s).droop = s.droop := rfl
@[simp] theorem scope_lmaxSpec : (scope s).lmaxSpec = s.lmaxSpec := rfl
@[simp] theorem scope_lmaxTone : (scope s).lmaxTone = s.lmaxTone := rfl
@[simp] theorem scope_toneShift : (scope s).toneShift = s.toneShift := rfl
@[simp] theorem scope_toneSub : (scope s).toneSub = s.toneSub := rfl
@[simp] theorem scope_fmax : (scope s).fmax = s.fmax := rfl
@[simp] theorem scope_stepFrames : (scope s).stepFrames = s.stepFrames := rfl
@[simp] theorem scope_toneK : (scope s).toneK = s.toneK := rfl
@[simp] theorem scope_toneMode : (scope s).toneMode = s.toneMode := rfl
@[simp] theorem scope_disp : (scope s).disp = s.disp := rfl
@[simp] theorem scope_idx : (scope s).idx = s.idx := rfl
@[simp] theorem scope_tcnt : (scope s).tcnt = s.tcnt := rfl
@[simp] theorem scope_re : (scope s).re = s.re := rfl
@[simp] theorem scope_im : (scope s).im = s.im := rfl
@[simp] theorem scope_mag : (scope s).mag = s.mag := rfl
@[simp] theorem scope_level : (scope s).level = s.level := rfl
@[simp] theorem scope_cur : (scope s).cur = s.cur := rfl
@[simp] theorem scope_peak : (scope s).peak = s.peak := rfl
@[simp] theorem scope_dcnt : (scope s).dcnt = s.dcnt := rfl
@[simp] theorem scope_thr : (scope s).thr = s.thr := rfl
@[simp] theorem scope_band : (scope s).band = s.band := rfl
@[simp] theorem scope_pending : (scope s).pending = s.pending := rfl
@[simp] theorem scope_rstN : (scope s).rstN = s.rstN := rfl
@[simp] theorem scope_inputs : (scope s).inputs = s.inputs := rfl
@[simp] theorem scope_reads : (scope s).reads = s.reads := rfl
@[simp] theorem scope_draws : (scope s).draws = s.draws := rfl

/-! ## BTN_MODE writes TONE_MODE, TONE_STATE and the display -/

@[simp] theorem btnModeWith_ctrl (b : Bool) : (btnModeWith b s).ctrl = s.ctrl := rfl
@[simp] theorem btnModeWith_done (b : Bool) : (btnModeWith b s).done = s.done := rfl
@[simp] theorem btnModeWith_errCmd (b : Bool) : (btnModeWith b s).errCmd = s.errCmd := rfl
@[simp] theorem btnModeWith_errBusy (b : Bool) : (btnModeWith b s).errBusy = s.errBusy := rfl
@[simp] theorem btnModeWith_droop (b : Bool) : (btnModeWith b s).droop = s.droop := rfl
@[simp] theorem btnModeWith_lmaxSpec (b : Bool) : (btnModeWith b s).lmaxSpec = s.lmaxSpec := rfl
@[simp] theorem btnModeWith_lmaxTone (b : Bool) : (btnModeWith b s).lmaxTone = s.lmaxTone := rfl
@[simp] theorem btnModeWith_toneShift (b : Bool) : (btnModeWith b s).toneShift = s.toneShift := rfl
@[simp] theorem btnModeWith_toneSub (b : Bool) : (btnModeWith b s).toneSub = s.toneSub := rfl
@[simp] theorem btnModeWith_fmax (b : Bool) : (btnModeWith b s).fmax = s.fmax := rfl
@[simp] theorem btnModeWith_stepFrames (b : Bool) : (btnModeWith b s).stepFrames = s.stepFrames := rfl
@[simp] theorem btnModeWith_toneK (b : Bool) : (btnModeWith b s).toneK = s.toneK := rfl
@[simp] theorem btnModeWith_disp (b : Bool) : (btnModeWith b s).disp = s.disp := rfl
@[simp] theorem btnModeWith_re (b : Bool) : (btnModeWith b s).re = s.re := rfl
@[simp] theorem btnModeWith_im (b : Bool) : (btnModeWith b s).im = s.im := rfl
@[simp] theorem btnModeWith_mag (b : Bool) : (btnModeWith b s).mag = s.mag := rfl
@[simp] theorem btnModeWith_level (b : Bool) : (btnModeWith b s).level = s.level := rfl
@[simp] theorem btnModeWith_thr (b : Bool) : (btnModeWith b s).thr = s.thr := rfl
@[simp] theorem btnModeWith_band (b : Bool) : (btnModeWith b s).band = s.band := rfl
@[simp] theorem btnModeWith_pending (b : Bool) : (btnModeWith b s).pending = s.pending := rfl
@[simp] theorem btnModeWith_rstN (b : Bool) : (btnModeWith b s).rstN = s.rstN := rfl
@[simp] theorem btnModeWith_inputs (b : Bool) : (btnModeWith b s).inputs = s.inputs := rfl
@[simp] theorem btnModeWith_reads (b : Bool) : (btnModeWith b s).reads = s.reads := rfl
@[simp] theorem btnModeWith_draws (b : Bool) : (btnModeWith b s).draws = s.draws := rfl

/-! ## BTN_DISP writes DISP and the display -/

@[simp] theorem btnDisp_ctrl : (btnDisp s).ctrl = s.ctrl := rfl
@[simp] theorem btnDisp_done : (btnDisp s).done = s.done := rfl
@[simp] theorem btnDisp_errCmd : (btnDisp s).errCmd = s.errCmd := rfl
@[simp] theorem btnDisp_errBusy : (btnDisp s).errBusy = s.errBusy := rfl
@[simp] theorem btnDisp_droop : (btnDisp s).droop = s.droop := rfl
@[simp] theorem btnDisp_lmaxSpec : (btnDisp s).lmaxSpec = s.lmaxSpec := rfl
@[simp] theorem btnDisp_lmaxTone : (btnDisp s).lmaxTone = s.lmaxTone := rfl
@[simp] theorem btnDisp_toneShift : (btnDisp s).toneShift = s.toneShift := rfl
@[simp] theorem btnDisp_toneSub : (btnDisp s).toneSub = s.toneSub := rfl
@[simp] theorem btnDisp_fmax : (btnDisp s).fmax = s.fmax := rfl
@[simp] theorem btnDisp_stepFrames : (btnDisp s).stepFrames = s.stepFrames := rfl
@[simp] theorem btnDisp_toneK : (btnDisp s).toneK = s.toneK := rfl
@[simp] theorem btnDisp_toneMode : (btnDisp s).toneMode = s.toneMode := rfl
@[simp] theorem btnDisp_idx : (btnDisp s).idx = s.idx := rfl
@[simp] theorem btnDisp_tcnt : (btnDisp s).tcnt = s.tcnt := rfl
@[simp] theorem btnDisp_re : (btnDisp s).re = s.re := rfl
@[simp] theorem btnDisp_im : (btnDisp s).im = s.im := rfl
@[simp] theorem btnDisp_mag : (btnDisp s).mag = s.mag := rfl
@[simp] theorem btnDisp_level : (btnDisp s).level = s.level := rfl
@[simp] theorem btnDisp_thr : (btnDisp s).thr = s.thr := rfl
@[simp] theorem btnDisp_band : (btnDisp s).band = s.band := rfl
@[simp] theorem btnDisp_pending : (btnDisp s).pending = s.pending := rfl
@[simp] theorem btnDisp_rstN : (btnDisp s).rstN = s.rstN := rfl
@[simp] theorem btnDisp_inputs : (btnDisp s).inputs = s.inputs := rfl
@[simp] theorem btnDisp_reads : (btnDisp s).reads = s.reads := rfl
@[simp] theorem btnDisp_draws : (btnDisp s).draws = s.draws := rfl

/-! ## TICK writes IDX and TCNT -/

theorem tick_frame : tick s = { s with idx := (tick s).idx, tcnt := (tick s).tcnt } := by
  unfold tick sweep
  split
  · rfl
  · split <;> rfl

@[simp] theorem tick_ctrl : (tick s).ctrl = s.ctrl := by rw [tick_frame]
@[simp] theorem tick_done : (tick s).done = s.done := by rw [tick_frame]
@[simp] theorem tick_errCmd : (tick s).errCmd = s.errCmd := by rw [tick_frame]
@[simp] theorem tick_errBusy : (tick s).errBusy = s.errBusy := by rw [tick_frame]
@[simp] theorem tick_droop : (tick s).droop = s.droop := by rw [tick_frame]
@[simp] theorem tick_lmaxSpec : (tick s).lmaxSpec = s.lmaxSpec := by rw [tick_frame]
@[simp] theorem tick_lmaxTone : (tick s).lmaxTone = s.lmaxTone := by rw [tick_frame]
@[simp] theorem tick_toneShift : (tick s).toneShift = s.toneShift := by rw [tick_frame]
@[simp] theorem tick_toneSub : (tick s).toneSub = s.toneSub := by rw [tick_frame]
@[simp] theorem tick_fmax : (tick s).fmax = s.fmax := by rw [tick_frame]
@[simp] theorem tick_stepFrames : (tick s).stepFrames = s.stepFrames := by rw [tick_frame]
@[simp] theorem tick_toneK : (tick s).toneK = s.toneK := by rw [tick_frame]
@[simp] theorem tick_toneMode : (tick s).toneMode = s.toneMode := by rw [tick_frame]
@[simp] theorem tick_disp : (tick s).disp = s.disp := by rw [tick_frame]
@[simp] theorem tick_re : (tick s).re = s.re := by rw [tick_frame]
@[simp] theorem tick_im : (tick s).im = s.im := by rw [tick_frame]
@[simp] theorem tick_mag : (tick s).mag = s.mag := by rw [tick_frame]
@[simp] theorem tick_level : (tick s).level = s.level := by rw [tick_frame]
@[simp] theorem tick_cur : (tick s).cur = s.cur := by rw [tick_frame]
@[simp] theorem tick_peak : (tick s).peak = s.peak := by rw [tick_frame]
@[simp] theorem tick_dcnt : (tick s).dcnt = s.dcnt := by rw [tick_frame]
@[simp] theorem tick_fb : (tick s).fb = s.fb := by rw [tick_frame]
@[simp] theorem tick_thr : (tick s).thr = s.thr := by rw [tick_frame]
@[simp] theorem tick_band : (tick s).band = s.band := by rw [tick_frame]
@[simp] theorem tick_pending : (tick s).pending = s.pending := by rw [tick_frame]
@[simp] theorem tick_rstN : (tick s).rstN = s.rstN := by rw [tick_frame]
@[simp] theorem tick_inputs : (tick s).inputs = s.inputs := by rw [tick_frame]
@[simp] theorem tick_reads : (tick s).reads = s.reads := by rw [tick_frame]
@[simp] theorem tick_draws : (tick s).draws = s.draws := by rw [tick_frame]

/-! ## The path of a frame writes the data arrays and the display -/

@[simp] theorem framePath_ctrl : (framePath s).ctrl = s.ctrl := by unfold framePath; split <;> simp
@[simp] theorem framePath_done : (framePath s).done = s.done := by unfold framePath; split <;> simp
@[simp] theorem framePath_errCmd : (framePath s).errCmd = s.errCmd := by unfold framePath; split <;> simp
@[simp] theorem framePath_errBusy : (framePath s).errBusy = s.errBusy := by unfold framePath; split <;> simp
@[simp] theorem framePath_droop : (framePath s).droop = s.droop := by unfold framePath; split <;> simp
@[simp] theorem framePath_lmaxSpec : (framePath s).lmaxSpec = s.lmaxSpec := by unfold framePath; split <;> simp
@[simp] theorem framePath_lmaxTone : (framePath s).lmaxTone = s.lmaxTone := by unfold framePath; split <;> simp
@[simp] theorem framePath_toneShift : (framePath s).toneShift = s.toneShift := by unfold framePath; split <;> simp
@[simp] theorem framePath_toneSub : (framePath s).toneSub = s.toneSub := by unfold framePath; split <;> simp
@[simp] theorem framePath_fmax : (framePath s).fmax = s.fmax := by unfold framePath; split <;> simp
@[simp] theorem framePath_stepFrames : (framePath s).stepFrames = s.stepFrames := by unfold framePath; split <;> simp
@[simp] theorem framePath_toneK : (framePath s).toneK = s.toneK := by unfold framePath; split <;> simp
@[simp] theorem framePath_toneMode : (framePath s).toneMode = s.toneMode := by unfold framePath; split <;> simp
@[simp] theorem framePath_disp : (framePath s).disp = s.disp := by unfold framePath; split <;> simp
@[simp] theorem framePath_idx : (framePath s).idx = s.idx := by unfold framePath; split <;> simp
@[simp] theorem framePath_tcnt : (framePath s).tcnt = s.tcnt := by unfold framePath; split <;> simp
@[simp] theorem framePath_thr : (framePath s).thr = s.thr := by unfold framePath; split <;> simp
@[simp] theorem framePath_band : (framePath s).band = s.band := by unfold framePath; split <;> simp
@[simp] theorem framePath_pending : (framePath s).pending = s.pending := by unfold framePath; split <;> simp
@[simp] theorem framePath_rstN : (framePath s).rstN = s.rstN := by unfold framePath; split <;> simp
@[simp] theorem framePath_inputs : (framePath s).inputs = s.inputs := by unfold framePath; split <;> simp
@[simp] theorem framePath_reads : (framePath s).reads = s.reads := by unfold framePath; split <;> simp
@[simp] theorem framePath_draws : (framePath s).draws = s.draws := by unfold framePath; split <;> simp

/-! ## FRAME writes what its path and TICK write -/

@[simp] theorem frameBody_ctrl : (frameBody s).ctrl = s.ctrl := by simp [frameBody]
@[simp] theorem frameBody_done : (frameBody s).done = s.done := by simp [frameBody]
@[simp] theorem frameBody_errCmd : (frameBody s).errCmd = s.errCmd := by simp [frameBody]
@[simp] theorem frameBody_errBusy : (frameBody s).errBusy = s.errBusy := by simp [frameBody]
@[simp] theorem frameBody_droop : (frameBody s).droop = s.droop := by simp [frameBody]
@[simp] theorem frameBody_lmaxSpec : (frameBody s).lmaxSpec = s.lmaxSpec := by simp [frameBody]
@[simp] theorem frameBody_lmaxTone : (frameBody s).lmaxTone = s.lmaxTone := by simp [frameBody]
@[simp] theorem frameBody_toneShift : (frameBody s).toneShift = s.toneShift := by simp [frameBody]
@[simp] theorem frameBody_toneSub : (frameBody s).toneSub = s.toneSub := by simp [frameBody]
@[simp] theorem frameBody_fmax : (frameBody s).fmax = s.fmax := by simp [frameBody]
@[simp] theorem frameBody_stepFrames : (frameBody s).stepFrames = s.stepFrames := by simp [frameBody]
@[simp] theorem frameBody_toneK : (frameBody s).toneK = s.toneK := by simp [frameBody]
@[simp] theorem frameBody_toneMode : (frameBody s).toneMode = s.toneMode := by simp [frameBody]
@[simp] theorem frameBody_disp : (frameBody s).disp = s.disp := by simp [frameBody]
@[simp] theorem frameBody_thr : (frameBody s).thr = s.thr := by simp [frameBody]
@[simp] theorem frameBody_band : (frameBody s).band = s.band := by simp [frameBody]
@[simp] theorem frameBody_pending : (frameBody s).pending = s.pending := by simp [frameBody]
@[simp] theorem frameBody_rstN : (frameBody s).rstN = s.rstN := by simp [frameBody]
@[simp] theorem frameBody_inputs : (frameBody s).inputs = s.inputs := by simp [frameBody]
@[simp] theorem frameBody_reads : (frameBody s).reads = s.reads := by simp [frameBody]
@[simp] theorem frameBody_draws : (frameBody s).draws = s.draws := by simp [frameBody]

/-! ## BUSY -/

@[simp] theorem busy_tick : (tick s).busy = s.busy := by simp [State.busy]
@[simp] theorem busy_frameBody : (frameBody s).busy = s.busy := by simp [State.busy]

end Sys2Proof.Machine
end

