-- ==== Sys2Proof/Laws/Ops.lean ====
section
/-! SUPPORT. What each shared operation can do, said once: reads, writes, issuing, the next event, a step, the addresses of the map, the drawing of a row, the butterfly. -/

namespace Sys2Proof.Machine

/-! ## Arithmetic -/

/-- This hardware wraps (R115). -/
@[simp] theorem narrow_eq (v : Int) : narrow v = BitVec.ofInt 8 v := rfl

@[simp] theorem halveIf_true (v : Int) : halveIf true v = v / 2 := by simp [halveIf, asr]
@[simp] theorem halveIf_false (v : Int) : halveIf false v = v := rfl

theorem fmul_eq (w x : Int) : fmul w x = (w * x + 64) / 128 := rfl

@[simp] theorem fmul_zero (w : Int) : fmul w 0 = 0 := by simp [fmul_eq]

/-! ## Arrays -/

/-- Element i of a tabulated array. -/
@[simp] theorem getElem_tabulate {α : Type} {n : Nat} (f : Fin n → α) (i : Nat) (h : i < n) :
    (tabulate f)[i] = f ⟨i, h⟩ := by
  simp [tabulate]

/-! ## The addresses of the map -/

theorem target_re : ∀ i : Fin 64, target (BitVec.ofNat 9 (0x040 + i)) = .re i := by decide
theorem target_im : ∀ i : Fin 64, target (BitVec.ofNat 9 (0x080 + i)) = .im i := by decide
theorem target_mag : ∀ k : Fin 32, target (BitVec.ofNat 9 (0x0C0 + k)) = .mag k := by decide
theorem target_level : ∀ k : Fin 32, target (BitVec.ofNat 9 (0x0E0 + k)) = .level k := by decide
theorem target_cur : ∀ d : Fin 32, target (BitVec.ofNat 9 (0x100 + d)) = .cur d := by decide
theorem target_peak : ∀ d : Fin 32, target (BitVec.ofNat 9 (0x120 + d)) = .peak d := by decide
theorem target_dcnt : ∀ d : Fin 32, target (BitVec.ofNat 9 (0x140 + d)) = .dcnt d := by decide
theorem target_fb : ∀ r : Fin 8, target (BitVec.ofNat 9 (0x160 + r)) = .fb r := by decide
theorem target_thr : ∀ i : Fin 15, target (BitVec.ofNat 9 (0x170 + i)) = .thr i := by decide
theorem target_band : ∀ d : Fin 32, target (BitVec.ofNat 9 (0x180 + d)) = .band d := by decide
theorem target_sinq : ∀ k : Fin 17, target (BitVec.ofNat 9 (0x1A0 + k)) = .sinq k := by decide

/-! ## Host reads -/

theorem memRead_low {s : State} (h : s.rstN = false) (a : Addr) : memRead a s = 0 := by simp [memRead, h]

theorem memRead_draw {s : State} (h : s.rstN = true) (hb : s.busy = true) {a : Addr} (h0 : a ≠ 0x000#9) (h2 : a ≠ 0x002#9) :
    memRead a s = Config.freeValue s.draws ∧ readDraws a s = 1 := by
  simp [memRead, readDraws, readIsDraw, h, hb, h0, h2]

theorem memRead_mapped {s : State} (h : s.rstN = true) {a : Addr} (hb : s.busy = false ∨ a = 0x000#9 ∨ a = 0x002#9) :
    memRead a s = readTarget (target a) s ∧ readDraws a s = 0 := by
  rcases hb with hb | rfl | rfl <;> simp [memRead, readDraws, readIsDraw, *]

/-! ## Host writes -/

theorem memWrite_low {s : State} (h : s.rstN = false) (a : Addr) (v : Word) : memWrite a v s = s := by simp [memWrite, h]

theorem memWrite_status {s : State} (h : s.rstN = true) (v : Word) : memWrite 0x002#9 v s = clearStatus v s := by
  simp [memWrite, h, target, writeTarget]

theorem memWrite_busy {s : State} (h : s.rstN = true) (hb : s.busy = true) {a : Addr} (h2 : a ≠ 0x002#9) (v : Word) :
    memWrite a v s = raise .busy s := by
  simp [memWrite, h, hb, h2]

theorem memWrite_idle {s : State} (h : s.rstN = true) (hb : s.busy = false) (a : Addr) (v : Word) :
    memWrite a v s = writeTarget (target a) v s := by
  simp [memWrite, h, hb]

theorem issueCommand_legal {w : Word} (h : cmdLegal w = true) (s : State) : issueCommand w s = acceptCommand w s := by
  simp [issueCommand, h]

theorem issueCommand_illegal {w : Word} (h : cmdLegal w = false) (s : State) : issueCommand w s = raise .cmd s := by
  simp [issueCommand, h]

theorem memWrite_cmd_idle {s : State} (h : s.rstN = true) (hb : s.busy = false) (w : Word) :
    memWrite 0x003#9 w s = issueCommand w s := by
  rw [memWrite_idle h hb]; rfl

/-! ## Commands -/

/-- The body of a command; a bus transaction has none. -/
def body : Instr → State → State
  | .rd _, s => s
  | .wr _ _, s => s
  | .cmdIssue _, s => s
  | .nop, s => s
  | .clrim, s => clrim s
  | .bitrev, s => bitrev s
  | .fft inv scale, s => fft inv scale s
  | .mag, s => magBody s
  | .update, s => update s
  | .render, s => render s
  | .scope, s => scope s
  | .clrdisp, s => resetDisplay s
  | .btnMode, s => btnModeWith Config.hasBuzzer s
  | .btnDisp, s => btnDisp s
  | .tick, s => tick s
  | .frame, s => frameBody s

/-- A command does its body and completes (R220). -/
theorem exec_command {i : Instr} (h : i.format = .cmd) (s : State) : exec i s = .next (complete (body i s)) := by
  cases i <;> first | rfl | cases h

/-! ### No command reads ERR_BUSY or the script: each body carries them along -/

theorem sweep_with (s : State) (b : Bool) (l : List Input) :
    sweep { s with errBusy := b, inputs := l } = { sweep s with errBusy := b, inputs := l } := by
  by_cases h : s.tcnt.toNat + 1 ≥ framesPerStep s
  · rw [sweep, sweep, if_pos h, if_pos (by exact h)]; rfl
  · rw [sweep, sweep, if_neg h, if_neg (by exact h)]

theorem tick_with (s : State) (b : Bool) (l : List Input) :
    tick { s with errBusy := b, inputs := l } = { tick s with errBusy := b, inputs := l } := by
  by_cases h : s.toneMode = .off
  · rw [tick, tick, if_pos h, if_pos (by exact h)]
  · rw [tick, tick, if_neg h, if_neg (by exact h), sweep_with]

theorem framePath_with (s : State) (b : Bool) (l : List Input) :
    framePath { s with errBusy := b, inputs := l } = { framePath s with errBusy := b, inputs := l } := by
  rcases s with ⟨_, _, _, _, _, _, _, _, _, _, _, _, _, disp, _⟩
  cases disp <;> rfl

theorem body_with (i : Instr) (s : State) (b : Bool) (l : List Input) :
    body i { s with errBusy := b, inputs := l } = { body i s with errBusy := b, inputs := l } := by
  cases i
  case tick => exact tick_with s b l
  case frame => exact (congrArg tick (framePath_with s b l)).trans (tick_with _ b l)
  all_goals rfl

/-- A legal word decodes to a command. -/
theorem decodeCmd_legal {w : Word} (h : cmdLegal w = true) : ∃ i, decodeCmd w = .instr i ∧ i.format = .cmd := by
  unfold cmdLegal at h
  rcases hd : decodeCmd w with i | e
  · refine ⟨i, rfl, ?_⟩
    unfold decodeCmd at hd
    split at hd
    · cases hd
    · split at hd
      · cases hd
      · unfold commandOfOp at hd
        split at hd <;> cases hd <;> rfl
  · simp [hd, Decoded.toOption] at h

/-! ## Steps -/

/-- What a step that answers a next state has done: run an instruction, or passed a quiet event. -/
theorem step_next {s t : State} (h : step s = .next t) :
    (∃ i u, nextEvent s = .run i u ∧ exec i u = .next t) ∨ nextEvent s = .quiet t := by
  unfold step at h
  split at h
  · exact .inl ⟨_, _, ‹_›, h⟩
  · cases h; exact .inr ‹_›
  · cases h

/-- A turn of the engine with a legal command, or none, in PENDING. -/
theorem engineTurn_cases {s : State} (h : ∀ w, s.pending = some w → cmdLegal w = true) :
    (s.pending = none ∧ engineTurn s = .quiet s) ∨
    (∃ w i, s.pending = some w ∧ decodeCmd w = .instr i ∧ i.format = .cmd ∧ engineTurn s = .run i s) := by
  rcases hp : s.pending with _ | w
  · exact .inl ⟨rfl, by simp [engineTurn, hp]⟩
  · obtain ⟨i, hi, hf⟩ := decodeCmd_legal (h w hp)
    exact .inr ⟨w, i, rfl, hi, hf, by simp [engineTurn, hp, hi]⟩

/-! ## Drawing -/

theorem drawRow_bit_aux (lit : Fin 32 → Bool) (pos : Fin 32 → Fin 32) (p : Nat) (hp : p < 32) :
    ∀ (l : List (Fin 32)) (row : Word),
      (l.foldl (fun row d => if lit d then row ||| (1#32 <<< (pos d).val) else row) row).getLsbD p =
        (row.getLsbD p || l.any fun d => lit d && (pos d).val == p) := by
  intro l
  induction l with
  | nil => simp
  | cons d l ih =>
    intro row
    rw [List.foldl_cons, ih, List.any_cons]
    have hbit : (1#32 <<< (pos d).val).getLsbD p = ((pos d).val == p) := by
      simp only [BitVec.getLsbD_shiftLeft, BitVec.getLsbD_one, hp, decide_true, Bool.true_and]
      by_cases h : (pos d).val = p
      · simp [h]
      · have hne : ((pos d).val == p) = false := by simpa using h
        rw [hne]
        by_cases hlt : p < (pos d).val
        · simp [hlt]
        · have : p - (pos d).val ≠ 0 := by omega
          simp [this]
    cases hl : lit d <;> simp [hbit, Bool.or_assoc]

/-- Bit p of a drawn row is set exactly when a lit column is drawn there (R166, R169). -/
theorem drawRow_bit (lit : Fin 32 → Bool) (pos : Fin 32 → Fin 32) (p : Fin 32) :
    (drawRow lit pos)[p.val] = true ↔ ∃ d, lit d = true ∧ pos d = p := by
  unfold drawRow
  rw [← BitVec.getLsbD_eq_getElem, drawRow_bit_aux lit pos p.val p.isLt]
  simp [Fin.ext_iff]

/-! ## The permutation -/

/-- What BITREV puts at index i (R112). -/
@[simp] theorem getElem_bitrevArray (x : Vector Byte 64) (i : Nat) (h : i < 64) :
    (bitrevArray x)[i] = x[(rev6 ⟨i, h⟩).val] := by
  simp [bitrevArray]

theorem rev6_rev6 : ∀ i : Fin 64, rev6 (rev6 i) = i := by decide

/-! ## The butterfly -/

/-- An element outside the pair keeps its value. -/
theorem butterfly_other (scale : Bool) (wr wi : Int) {i jj k : Fin 64} (c : Coeffs) (hi : k ≠ i) (hj : k ≠ jj) :
    (butterfly scale wr wi i jj c).re[k] = c.re[k] ∧ (butterfly scale wr wi i jj c).im[k] = c.im[k] := by
  have h1 : i.val ≠ k.val := fun h => hi (Fin.ext h.symm)
  have h2 : jj.val ≠ k.val := fun h => hj (Fin.ext h.symm)
  simp [butterfly, h1, h2]

/-- The lower element of the pair (R116). -/
theorem butterfly_lower (scale : Bool) (wr wi : Int) {i jj : Fin 64} (c : Coeffs) (h : i ≠ jj) :
    (butterfly scale wr wi i jj c).re[jj] =
        n8 (halveIf scale c.re[i].toInt - (fmul wr c.re[jj].toInt - fmul wi c.im[jj].toInt)) ∧
      (butterfly scale wr wi i jj c).im[jj] =
        n8 (halveIf scale c.im[i].toInt - (fmul wr c.im[jj].toInt + fmul wi c.re[jj].toInt)) := by
  have h1 : i.val ≠ jj.val := fun e => h (Fin.ext e)
  simp [butterfly, h1, n8]

/-- The upper element of the pair (R116). -/
theorem butterfly_upper (scale : Bool) (wr wi : Int) (i jj : Fin 64) (c : Coeffs) :
    (butterfly scale wr wi i jj c).re[i] =
        n8 (halveIf scale c.re[i].toInt + (fmul wr c.re[jj].toInt - fmul wi c.im[jj].toInt)) ∧
      (butterfly scale wr wi i jj c).im[i] =
        n8 (halveIf scale c.im[i].toInt + (fmul wr c.im[jj].toInt + fmul wi c.re[jj].toInt)) := by
  simp [butterfly, n8]

end Sys2Proof.Machine
end

