-- ==== Sys2Proof/Laws/PerInstr.lean ====
section
/-! SUPPORT. Facts about every instruction as syntax, one lemma per constructor: its word is of its own row of spec/opcode_table.json. -/

namespace Sys2Proof.Laws.EncodingRow

/-- Mask and match of the instruction's row in spec/opcode_table.json. -/
def row : Instr → Nat × Nat
  | .rd _ => (0x20000000000, 0x00000000000)
  | .wr _ _ => (0x20000000000, 0x20000000000)
  | .cmdIssue _ => (0x3FF00000000, 0x20300000000)
  | .nop => (0xFFFFFFFF, 0x00000000)
  | .clrim => (0xFFFFFFFF, 0x00000001)
  | .bitrev => (0xFFFFFFFF, 0x00000002)
  | .fft _ _ => (0xFFFFFFCF, 0x00000003)
  | .mag => (0xFFFFFFFF, 0x00000004)
  | .update => (0xFFFFFFFF, 0x00000005)
  | .render => (0xFFFFFFFF, 0x00000006)
  | .scope => (0xFFFFFFFF, 0x00000007)
  | .clrdisp => (0xFFFFFFFF, 0x00000008)
  | .btnMode => (0xFFFFFFFF, 0x00000009)
  | .btnDisp => (0xFFFFFFFF, 0x0000000A)
  | .tick => (0xFFFFFFFF, 0x0000000B)
  | .frame => (0xFFFFFFFF, 0x0000000C)

/-- The word of a well-formed instruction matches its row. -/
def Statement (i : Instr) : Prop := i.wellFormed = true → encode i &&& (row i).1 = (row i).2

/-- A BUS word's bits that a mask keeps, as bits of its fields. -/
theorem busWord_and (we : Bool) (a : Addr) (d : Word) (mask : BusWord) :
    (busWord we a d).toNat &&& mask.toNat = (busWord we a d &&& mask).toNat := by simp

theorem rd (addr : Addr) : Statement (.rd addr) := by
  intro _
  have h : busWord false addr 0 &&& 0x20000000000#42 = 0#42 := by
    apply BitVec.eq_of_getLsbD_eq
    intro j hj
    have hm : (0x20000000000#42).getLsbD j = decide (j = 41) := by
      revert j; decide
    rw [BitVec.getLsbD_and, hm, getLsbD_busWord]
    by_cases h : j = 41 <;> simp [h]
  exact (busWord_and false addr 0 0x20000000000#42).trans (congrArg BitVec.toNat h)

theorem wr (addr : Addr) (data : Word) : Statement (.wr addr data) := by
  intro _
  have h : busWord true addr data &&& 0x20000000000#42 = 0x20000000000#42 := by
    apply BitVec.eq_of_getLsbD_eq
    intro j hj
    have hm : (0x20000000000#42).getLsbD j = decide (j = 41) := by
      revert j; decide
    rw [BitVec.getLsbD_and, hm, getLsbD_busWord]
    by_cases h : j = 41 <;> simp [h]
  exact (busWord_and true addr data 0x20000000000#42).trans (congrArg BitVec.toNat h)

theorem cmdIssue (word : Word) : Statement (.cmdIssue word) := by
  intro _
  have h : busWord true 0x003#9 word &&& 0x3FF00000000#42 = 0x20300000000#42 := by
    apply BitVec.eq_of_getLsbD_eq
    intro j hj
    rw [BitVec.getLsbD_and, getLsbD_busWord]
    by_cases h : j < 32
    · have hm : (0x3FF00000000#42).getLsbD j = false ∧ (0x20300000000#42).getLsbD j = false := by
        revert j; decide
      simp only [hm, Bool.and_false]
    · simp only [h, if_false]
      revert j; decide
  exact (busWord_and true 0x003#9 word 0x3FF00000000#42).trans (congrArg BitVec.toNat h)

theorem nop : Statement .nop := by unfold Statement; decide
theorem clrim : Statement .clrim := by unfold Statement; decide
theorem bitrev : Statement .bitrev := by unfold Statement; decide
theorem fft (inv scale : Bool) : Statement (.fft inv scale) := by
  revert inv scale; unfold Statement; decide
theorem mag : Statement .mag := by unfold Statement; decide
theorem update : Statement .update := by unfold Statement; decide
theorem render : Statement .render := by unfold Statement; decide
theorem scope : Statement .scope := by unfold Statement; decide
theorem clrdisp : Statement .clrdisp := by unfold Statement; decide
theorem btnMode : Statement .btnMode := by unfold Statement; decide
theorem btnDisp : Statement .btnDisp := by unfold Statement; decide
theorem tick : Statement .tick := by unfold Statement; decide
theorem frame : Statement .frame := by unfold Statement; decide

end Sys2Proof.Laws.EncodingRow
end

