-- ==== Sys2Proof/Tests/Slice0.lean ====
section
/-! SUPPORT. The model's own tests: the WellFormed smoke, a written-out word for every constructor, one-step tests whose expected values are the vectors of 95_test_vectors.md (the id stands in each docstring), and a witness for the hypotheses of every statement that has some. -/

namespace Sys2Proof.Tests

open Sys2Proof.Machine Sys2Proof.Claims

-- One test after another: the two transforms and the frame take seconds each, and their neighbours would wait in memory.
set_option Elab.async false

/-! ## Helpers -/

/-- The vectors' starting state: reset, with RE, IM, MAG and LEVEL written to 0 ("Arrays not listed are 0"). -/
def base : State :=
  { State.reset with re := Vector.replicate 64 0, im := Vector.replicate 64 0,
                     mag := Vector.replicate 32 0, level := Vector.replicate 32 0 }

/-- `base` with a FRAME in flight. -/
def busyBase : State := { base with pending := some 0x0C }

/-- Whether an instruction leaves a next state with a property. -/
def leaves (i : Instr) (s : State) (p : State → Bool) : Bool :=
  match exec i s with
  | .next t => p t
  | .fault _ => false
  | .refused _ => false

/-- Whether a step leaves a next state with a property. -/
def steps (s : State) (p : State → Bool) : Bool :=
  match step s with
  | .next t => p t
  | .fault _ => false
  | .refused _ => false

/-- An array of signed bytes from numbers, zeros after them. -/
def bytes (l : List Int) : Vector Byte 64 := Vector.ofFn fun i => BitVec.ofInt 8 (l.getD i.val 0)

/-- The numbers an array of bytes holds, read as two's complement. -/
def ints (v : Vector Byte 64) : List Int := v.toList.map BitVec.toInt

/-- RE[n] = round(100 cos(2 pi 4 n / 64)), as V-FFT5 lists it. -/
def toneFrame : Vector Byte 64 :=
  Vector.ofFn fun i => BitVec.ofInt 8
    (([100, 92, 71, 38, 0, -38, -71, -92, -100, -92, -71, -38, 0, 38, 71, 92] : List Int).getD (i.val % 16) 0)

/-- The common state of the RENDER vectors, under a value of CTRL. -/
def barState (ctrl : BitVec 4) : State :=
  { base with
    ctrl := ctrl
    cur := (((base.cur.set 0 8).set 1 1).set 5 3).set 31 15
    peak := ((((base.peak.set 0 8).set 1 4).set 2 12).set 5 3).set 31 15 }

/-! ## Well-formedness -/

/-- R91: a write of CMD is not a register write. -/
theorem test_wf_rejects_wr_of_cmd : (Instr.wr 0x003#9 0x0C#32).wellFormed = false := by decide

theorem test_wf_accepts_the_others :
    (Instr.wr 0x002#9 0x0C#32).wellFormed = true ∧ (Instr.wr 0x1FF#9 0#32).wellFormed = true ∧
    (Instr.rd 0x003#9).wellFormed = true ∧ (Instr.cmdIssue 0xFFFFFFFF#32).wellFormed = true := by decide

/-! ## Decoding: words written out from R90, R93 and the programs of 95_test_vectors.md -/

/-- WE = 0: `RD FB[0]`, `RD MODE` of the programs, and RD with a DATA field, which is ignored (R96). -/
theorem test_decode_rd :
    decode .bus 0x16000000000 = .instr (.rd 0x160#9) ∧ decode .bus 0x00800000000 = .instr (.rd 0x008#9) ∧
    decode .bus 0x00312345678 = .instr (.rd 0x003#9) := by decide

/-- WE = 1, ADDR not 0x003: `WR RE[0], 0x64`, `WR LEVEL[1], 8`, `WR TONE_K, 1200`. -/
theorem test_decode_wr :
    decode .bus 0x24000000064 = .instr (.wr 0x040#9 0x64#32) ∧ decode .bus 0x2E100000008 = .instr (.wr 0x0E1#9 8#32) ∧
    decode .bus 0x207000004B0 = .instr (.wr 0x007#9 1200#32) := by decide

/-- WE = 1, ADDR = 0x003: `FRAME` and `TICK` as the programs issue them, and an illegal word, which is issued all the same. -/
theorem test_decode_cmdIssue :
    decode .bus 0x2030000000C = .instr (.cmdIssue 0x0C#32) ∧ decode .bus 0x2030000000B = .instr (.cmdIssue 0x0B#32) ∧
    decode .bus 0x2030000000D = .instr (.cmdIssue 0x0D#32) := by decide

/-- The FFT engine's commands: OP 1, 2 and 3, INV in bit 4, SCALE in bit 5. -/
theorem test_decode_fft_engine :
    decode .cmd 0x01 = .instr .clrim ∧ decode .cmd 0x02 = .instr .bitrev ∧
    decode .cmd 0x03 = .instr (.fft false false) ∧ decode .cmd 0x13 = .instr (.fft true false) ∧
    decode .cmd 0x23 = .instr (.fft false true) ∧ decode .cmd 0x33 = .instr (.fft true true) := by decide

theorem test_decode_magnitude_and_display :
    decode .cmd 0x04 = .instr .mag ∧ decode .cmd 0x05 = .instr .update ∧ decode .cmd 0x06 = .instr .render ∧
    decode .cmd 0x07 = .instr .scope ∧ decode .cmd 0x08 = .instr .clrdisp := by decide

theorem test_decode_modes_and_control :
    decode .cmd 0x09 = .instr .btnMode ∧ decode .cmd 0x0A = .instr .btnDisp ∧ decode .cmd 0x0B = .instr .tick ∧
    decode .cmd 0x0C = .instr .frame ∧ decode .cmd 0x00 = .instr .nop := by decide

/-- R94, each of its three grounds, and a number too wide for its format (R90). -/
theorem test_decode_rejects :
    decode .cmd 0x0D = .rejected .illegalOp ∧ decode .cmd 0x0F = .rejected .illegalOp ∧
    decode .cmd 0x11 = .rejected .strayArgument ∧ decode .cmd 0x2C = .rejected .strayArgument ∧
    decode .cmd 0x40 = .rejected .reservedBits ∧ decode .cmd 0x80000003 = .rejected .reservedBits ∧
    decode .cmd 0x100000000 = .rejected .tooWide ∧ decode .bus 0x40000000000 = .rejected .tooWide := by decide

/-- The host's numbering: 32 bits for a command row, 48 for a BUS row (42 in whole bytes). -/
theorem test_decodeTableWord :
    decodeTableWord 32 0x33 = some (.fft true true) ∧ decodeTableWord 32 0x0D = none ∧
    decodeTableWord 48 0x20300000009 = some (.cmdIssue 9#32) ∧ decodeTableWord 48 0x24000000064 = some (.wr 0x040#9 0x64#32)
    := by decide

/-! ## Arithmetic -/

/-- V-TW2 to V-TW7. -/
theorem test_twiddles :
    ([0, 8, 16, 24, 31] : List Nat).map cos64 = [127, 90, 0, -90, -126] ∧
    ([0, 8, 16, 24, 31, 40, 48, 63] : List Nat).map sin64 = [0, 90, 127, 90, 12, -90, -127, -12] := by decide

/-- V-FM1 to V-FM10. -/
theorem test_fmul :
    ([(-128, -128), (127, 127), (127, -128), (1, 64), (-1, 64), (-1, 65), (63, 1), (63, -1), (63, 127), (63, -128), (127, 1),
      (127, -1), (64, -128)] : List (Int × Int)).map (fun p => fmul p.1 p.2) =
      [128, 126, -127, 1, 0, -1, 0, 0, 63, -63, 1, -1, -64] := by decide

/-- V-SQ1 to V-SQ10. -/
theorem test_isqrt :
    ([0, 1, 3, 4, 8, 15, 16, 24, 25, 99, 100, 169, 32760, 32761, 32768, 65535] : List Nat).map isqrt =
      [0, 1, 1, 2, 2, 3, 4, 4, 5, 9, 10, 13, 180, 181, 181, 255] := by decide +kernel

/-- V-Q1 to V-Q10, and V-Q11 to V-Q14. -/
theorem test_quantizers :
    ([0, 1, 2, 3, 4, 5, 7, 8, 11, 12, 19, 20, 31, 32, 49, 50, 181, 255] : List Nat).map (quantize base) =
      [0, 0, 1, 2, 2, 3, 3, 4, 4, 5, 5, 6, 6, 7, 7, 8, 8, 8] ∧
    quantize { base with lmaxSpec := 0 } 255 = 0 ∧
    ([0, 63, 64, 71, 72, 79, 80, 127, 128, 181] : List Nat).map (quantize { base with toneMode := .toneBuzzer }) =
      [0, 0, 0, 0, 1, 1, 2, 7, 8, 14] := by decide +kernel

/-! ## One step of each instruction -/

/-- V-BUS2: QCFG, TONE_CFG, TONE_K, TONE_STATE, TONE_HP, DROOP after reset; V-BUS1, V-BUS3, V-BUS7. -/
theorem test_rd_reset_values :
    ([0x005#9, 0x006#9, 0x007#9, 0x009#9, 0x00A#9, 0x004#9, 0x000#9, 0x003#9, 0x00B#9, 0x1FF#9, 0x1B0#9, 0x1A0#9] : List Addr).all
      (fun a => leaves (.rd a) State.reset fun t => t.reads == [memRead a State.reset]) = true ∧
    ([0x005#9, 0x006#9, 0x007#9, 0x009#9, 0x00A#9, 0x004#9, 0x000#9, 0x003#9, 0x00B#9, 0x1FF#9, 0x1B0#9, 0x1A0#9] : List Addr).map
      (fun a => (memRead a State.reset).toNat) =
      [0x83F8, 0x0820, 0x3E80, 0x0001, 16000, 4, 0x46465436, 0, 0, 0, 127, 0] := by decide +kernel

/-- V-BUS4: RE[5] = -128 reads as 0xFFFFFF80. -/
theorem test_rd_sign_extends :
    leaves (.rd 0x045#9) { base with re := base.re.set 5 0x80 } (fun t => t.reads == [0xFFFFFF80#32]) = true := by
  decide +kernel

/-- V-BUS5: bits 4:0 of a BAND write are kept. -/
theorem test_wr_keeps_the_field : leaves (.wr 0x180#9 0x25#32) base (fun t => t.band[(0 : Fin 32)] == 5#5) = true := by
  decide +kernel

/-- V-ER5: a write while BUSY = 1 is discarded and sets ERR_BUSY. -/
theorem test_wr_while_busy : exec (.wr 0x040#9 5#32) busyBase = .next { busyBase with errBusy := true } := by rfl

/-- V-ER1, V-ER2, V-ER3: STATUS = 0x4 and nothing else. -/
theorem test_cmdIssue_illegal :
    exec (.cmdIssue 0xD#32) base = .next { base with errCmd := true } ∧
    exec (.cmdIssue 0x11#32) base = .next { base with errCmd := true } ∧
    exec (.cmdIssue 0x40#32) base = .next { base with errCmd := true } := by exact ⟨rfl, rfl, rfl⟩

/-- V-ER4: FFT 1,0 is accepted, STATUS = 0x1. -/
theorem test_cmdIssue_legal :
    leaves (.cmdIssue 0x13#32) base (fun t => t.pending == some 0x13#32 && t.status == 1#4) = true := by decide +kernel

/-- V-LC1: STATUS = 0x2 and irq = 1 after the step of a NOP with IE = 1. -/
theorem test_nop :
    leaves .nop { base with ctrl := 8, pending := some 0 } (fun t => t.status == 2#4 && t.irq) = true := by decide +kernel

/-- V-CL1. -/
theorem test_clrim :
    leaves .clrim { base with re := bytes [7, 8], im := bytes [1, 2, 3] }
      (fun t => ints t.im == List.replicate 64 0 && t.re == bytes [7, 8]) = true := by decide +kernel

/-- V-BR1 and V-BR4, the first elements of each: IM follows the same permutation as RE. -/
theorem test_bitrev :
    leaves .bitrev { base with re := bytes ((List.range 64).map fun n => (n : Int)),
                               im := bytes ((List.range 64).map fun n => (n : Int) - 32) }
      (fun t => (ints t.re).take 16 == [0, 32, 16, 48, 8, 40, 24, 56, 4, 36, 20, 52, 12, 44, 28, 60] &&
        (ints t.im).getD 1 9 == 0 && (ints t.im).getD 2 9 == -16 && (ints t.im).getD 32 9 == -31) = true := by
  decide +kernel

/-- V-FFT10: a result outside 8 bits wraps. -/
theorem test_fft_wraps :
    leaves (.fft false false) { base with re := bytes [127, 127] }
      (fun t => (ints t.re).take 8 == [-3, -4, -5, -8, -13, -18, -24, -32] && (ints t.re).getD 32 0 == 1 &&
        (ints t.im).take 8 == [0, -12, -25, -37, -49, -60, -70, -80]) = true := by decide +kernel

/-- V-FFT12: the inverse of an impulse at 1. -/
theorem test_fft_inverse :
    leaves (.fft true false) { base with re := bytes [0, 64] }
      (fun t => (ints t.re).take 16 == [64, 63, 63, 61, 59, 56, 53, 49, 45, 41, 36, 30, 25, 19, 13, 6] &&
        (ints t.im).take 16 == [0, 6, 13, 19, 25, 30, 36, 41, 45, 49, 53, 56, 59, 61, 63, 63]) = true := by decide +kernel

/-- V-MG1. -/
theorem test_mag :
    leaves .mag { base with re := bytes [0, 0, 0, 3], im := bytes [0, 0, 0, -4] }
      (fun t => t.mag == (Vector.replicate 32 0).set 3 5 && t.level == (Vector.replicate 32 0).set 3 3) = true := by
  decide +kernel

/-- V-MG2 with V-Q14's quantizer: -128, -128 gives 181, in a tone mode level 14. -/
theorem test_mag_tone :
    leaves .mag { base with toneMode := .toneDirect, re := bytes [-128], im := bytes [-128] }
      (fun t => t.mag[(0 : Fin 32)] == 181 && t.level[(0 : Fin 32)] == 14) = true := by decide +kernel

/-- V-UP4: a decay step. -/
theorem test_update_decays :
    leaves .update { base with peak := base.peak.set 0 5, dcnt := base.dcnt.set 0 3, level := base.level.set 0 2 }
      (fun t => t.cur[(0 : Fin 32)] == 2 && t.peak[(0 : Fin 32)] == 4 && t.dcnt[(0 : Fin 32)] == 0) = true := by
  decide +kernel

/-- V-UP3: the interval has elapsed, but PEAK = level. -/
theorem test_update_holds :
    leaves .update { base with peak := base.peak.set 0 4, dcnt := base.dcnt.set 0 3, level := base.level.set 0 4 }
      (fun t => t.cur[(0 : Fin 32)] == 4 && t.peak[(0 : Fin 32)] == 4 && t.dcnt[(0 : Fin 32)] == 0) = true := by
  decide +kernel

/-- V-RD2: Fill, Mirrored, CUR. -/
theorem test_render_fill_mirrored :
    leaves .render (barState 2) (fun t => t.fb.toList.map BitVec.toNat ==
      [0xC4000001, 0x84000001, 0x84000001, 0x80000001, 0x80000001, 0x80000001, 0x80000001, 0x80000001]) = true := by
  decide +kernel

/-- V-RD4: Dot, Normal, whatever FSRC. -/
theorem test_render_dot :
    leaves .render (barState 5) (fun t => t.fb.toList.map BitVec.toNat ==
      [0, 0, 0x20, 2, 0, 0, 0, 0x80000005]) = true := by decide +kernel

/-- V-SC3, with MIRROR = 1, which SCOPE ignores (V-SC4). -/
theorem test_scope :
    leaves .scope { base with
        ctrl := 2, re := bytes [-128, -97, -96, -65, -64, -33, -32, -1, 0, 31, 32, 63, 64, 95, 96, 127] }
      (fun t => t.fb.toList.map BitVec.toNat ==
        [3, 0xC, 0x30, 0xC0, 0xFFFF0300, 0xC00, 0x3000, 0xC000]) = true := by decide +kernel

/-- R171's example. -/
theorem test_clrdisp :
    leaves .clrdisp { base with peak := base.peak.set 3 7, fb := base.fb.set 0 8 }
      (fun t => t.peak[(3 : Fin 32)] == 0 && t.fb[(0 : Fin 8)] == 0) = true := by decide +kernel

/-- V-MD3. -/
theorem test_btnMode :
    leaves .btnMode { base with idx := 7, tcnt := 3, peak := base.peak.set 3 7, fb := base.fb.set 0 8 }
      (fun t => t.toneMode == .toneDirect && t.idx == 1 && t.tcnt == 0 && t.peak == base.peak && t.fb == base.fb) = true := by
  decide +kernel

/-- V-MD1 and V-MD2: the mode after each press, for both values of HAS_BUZZER. -/
theorem test_btnMode_cycle :
    [true, true, true, true].scanl (fun m b => nextToneMode b m) .off =
      [.off, .toneDirect, .toneBuzzer, .off, .toneDirect] ∧
    [false, false, false].scanl (fun m b => nextToneMode b m) .off = [.off, .toneDirect, .off, .toneDirect] := by decide

/-- V-MD4. -/
theorem test_btnDisp :
    leaves .btnDisp { base with peak := base.peak.set 0 6, dcnt := base.dcnt.set 0 2 }
      (fun t => t.disp == .oscilloscope && t.peak[(0 : Fin 32)] == 0 && t.dcnt[(0 : Fin 32)] == 0 && t.idx == 1) = true := by
  decide +kernel

/-- V-TK2: the wrap to 1. -/
theorem test_tick_wraps :
    leaves .tick { base with toneMode := .toneDirect, idx := 32, tcnt := 7 }
      (fun t => t.idx == 1 && t.tcnt == 0 && t.toneHp == 16000) = true := by decide +kernel

/-- V-TK3 and V-TK5: no count with the tone off; a lowered FMAX wraps at once. -/
theorem test_tick_off_and_lowered :
    leaves .tick { base with idx := 5 } (fun t => t.idx == 5 && t.tcnt == 0) = true ∧
    leaves .tick { base with toneMode := .toneDirect, idx := 10, fmax := 4, stepFrames := 1 } (fun t => t.idx == 1) = true := by
  decide +kernel

/-- P1, frame 1: the whole pipeline on a tone at column 4 (and RE, IM as V-FFT5). -/
theorem test_frame_spectrum :
    leaves .frame { base with re := toneFrame }
      (fun t => (ints t.re).take 33 == [-1, 0, 0, 0, 48, 0, 0, 0, 0, 0, 0, 0, 0, 0, 0, 0, 0, 0, 0, 0, 0, 0, 0, 0, 0, 0, 0, 0,
          -1, 0, 0, 0, -1] && (ints t.im).getD 4 0 == -1 && (ints t.im).getD 36 0 == 1 &&
        t.mag[(4 : Fin 32)] == 48 && t.mag[(6 : Fin 32)] == 1 && t.level == (Vector.replicate 32 0).set 4 7 &&
        t.fb.toList.map BitVec.toNat == [0x10, 0x10, 0x10, 0x10, 0x10, 0x10, 0x10, 0]) = true := by decide +kernel

/-- P3: the oscilloscope frame. -/
theorem test_frame_oscilloscope :
    leaves .frame { base with disp := .oscilloscope, re := bytes ((List.range 32).map fun c => 8 * (c : Int) - 128) }
      (fun t => t.fb.toList.map BitVec.toNat ==
        [0xF, 0xF0, 0xF00, 0xF000, 0xF0000, 0xF00000, 0xF000000, 0xF0000000]) = true := by decide +kernel

/-! ## Steps -/

/-- A command placed by `withFetchWord` runs in the very next step; a BUS word is the host's next transaction. -/
theorem test_withFetchWord :
    steps (State.reset.withFetchWord 32 0x09) (fun t => t.toneMode == .toneDirect && t.done && !t.busy) = true ∧
    steps (State.reset.withFetchWord 48 0x20300000009) (fun t => t.pending == some 9#32 && t.toneMode == .off) = true := by
  decide +kernel

/-- R270 and R272: rst_n falls with a FRAME in flight, which is abandoned; a read then returns 0, of ID too. -/
theorem test_reset_pin :
    steps { busyBase with inputs := [.resetPin false], droop := 9, toneMode := .toneBuzzer }
      (fun t => t.pending.isNone && t.droop == 4 && t.toneMode == .off && !t.rstN && memRead 0x000#9 t == 0) = true := by
  decide +kernel

/-! ## Witnesses: for each statement with hypotheses, states and operands that meet them

Each theorem names the statement it is for; where a statement has several clauses, one conjunct meets the hypotheses of each,
at a boundary of its range. -/

/-- `base` and `busyBase` are ordinary states: out of reset, idle and busy. -/
theorem witness_idle : Idle base ∧ busyBase.rstN = true ∧ busyBase.busy = true := ⟨⟨rfl, rfl⟩, rfl, rfl⟩

/-- DecodeEncodeRoundTrip, EncodeDecodeRoundTrip. -/
theorem witness_encoding :
    (Instr.wr 0x1FF#9 0xFFFFFFFF#32).wellFormed = true ∧ (Instr.cmdIssue 0xFFFFFFFF#32).wellFormed = true ∧
    (Instr.fft true true).wellFormed = true ∧ decodeCmd 0x33#32 = .instr (.fft true true) := by decide

/-- IllegalWordRaisesCmdErrorOnly, IssueCommandAcceptsLegalWords: illegal words on each ground of R94, legal words at the ends
of the table, an idle and a busy state. -/
theorem witness_command_words :
    cmdLegal 0x0D#32 = false ∧ cmdLegal 0x40#32 = false ∧ cmdLegal 0x11#32 = false ∧ cmdLegal 0x0C#32 = true ∧
    cmdLegal 0x00#32 = true ∧ base.rstN = true ∧ base.busy = false ∧ busyBase.rstN = true ∧ busyBase.busy = true := by
  decide +kernel

/-- StepRunsTheDecodedInstruction: a legal word in PENDING, and PENDING empty. -/
theorem witness_step : busyBase.pending = some 0x0C#32 ∧ decodeCmd 0x0C#32 = .instr .frame ∧ base.pending = none :=
  ⟨rfl, by decide, rfl⟩

/-- A state that meets the invariant, with a FRAME in flight and a script that ends with another command. -/
def scripted : State := { busyBase with inputs := [.resetPin true, .engine, .bus (busWord true 0x003#9 0x09#32)] }

/-- StepKeepsInvariant, BlockNeverStops, CommandInFlightCompletes. -/
theorem witness_invariant : scripted.Inv ∧ ∃ t, step scripted = .next t := by
  refine ⟨⟨by decide +kernel, by decide +kernel, by decide +kernel, by decide +kernel, ?_, by decide +kernel,
    by decide +kernel, by decide +kernel⟩, _, rfl⟩
  intro w h
  cases h
  decide

/-- ResetPinGivesResetValues. -/
theorem witness_reset_low : ({ base with rstN := false } : State).rstN = false := rfl

/-- ReadReturnsMappedWord, WriteStoresField, ReservedAndReadOnlyAddresses, WriteLeavesOtherAddressesAlone: the ends of every
reserved and read-only range, and no address in both. -/
theorem witness_addresses :
    (isReserved 0x00B#9 ∧ isReserved 0x03F#9 ∧ isReserved 0x168#9 ∧ isReserved 0x16F#9 ∧ isReserved 0x17F#9 ∧
      isReserved 0x1B1#9 ∧ isReserved 0x1FF#9) ∧
    (isReadOnly 0x000#9 ∧ isReadOnly 0x008#9 ∧ isReadOnly 0x00A#9 ∧ isReadOnly 0x0C0#9 ∧ isReadOnly 0x0DF#9 ∧
      isReadOnly 0x100#9 ∧ isReadOnly 0x167#9 ∧ isReadOnly 0x1A0#9 ∧ isReadOnly 0x1B0#9) ∧
    (¬ isReserved 0x003#9 ∧ ¬ isReadOnly 0x003#9) ∧ ∀ a : Addr, ¬ (isReserved a ∧ isReadOnly a) := by
  refine ⟨by simp [isReserved], by simp [isReadOnly], by simp [isReserved, isReadOnly], fun a h => ?_⟩
  simp only [isReserved, isReadOnly] at h
  omega

/-- The other hypotheses of those statements and of AccessWhileCommandInFlight: IDX is not 0, and addresses that are not
those named. -/
theorem witness_accesses :
    base.idx ≠ 0 ∧ (0x1FF#9 : Addr) ≠ 0x000#9 ∧ (0x1FF#9 : Addr) ≠ 0x002#9 ∧ (0x007#9 : Addr) ≠ 0x003#9 ∧
    (0x009#9 : Addr) ≠ 0x007#9 ∧ (0x009#9 : Addr) ≠ 0x00A#9 := by decide +kernel

/-- HostCannotDisturbCommandInFlight. -/
theorem witness_host_while_busy :
    ∃ t, busyBase.busy = true ∧ (Instr.rd 0x040#9).format = .bus ∧ exec (.rd 0x040#9) busyBase = .next t :=
  ⟨_, rfl, rfl, rfl⟩

/-- EveryCommandCompletes. (NopOnlyCompletes has `witness_idle`.) -/
theorem witness_commands : (Instr.frame).format = .cmd ∧ (Instr.nop).format = .cmd := ⟨rfl, rfl⟩

/-- IrqIsLevelOfDone: a completion, and words that set and clear IE and DONE. -/
theorem witness_irq :
    (∃ t, exec .nop busyBase = .next t) ∧ Idle base ∧ (0x2#32 : Word).getLsbD 1 = true ∧ cmdLegal 0x0B#32 = true :=
  ⟨⟨_, rfl⟩, ⟨rfl, rfl⟩, by decide, by decide⟩

/-- ErrorBitsChangeOnlyByHostWrites: both errors raised, and both cleared. -/
theorem witness_error_bits :
    (∃ t, exec (.cmdIssue 0x0D#32) base = .next t ∧ base.errCmd = false ∧ t.errCmd = true) ∧
    (∃ t, exec (.wr 0x1FF#9 0#32) busyBase = .next t ∧ busyBase.errBusy = false ∧ t.errBusy = true) ∧
    (∃ t, exec (.cmdIssue 0x0C#32) busyBase = .next t ∧ busyBase.errBusy = false ∧ t.errBusy = true) ∧
    (∃ t, exec (.wr 0x002#9 0xC#32) { base with errCmd := true, errBusy := true } = .next t ∧
      t.errCmd = false ∧ t.errBusy = false) := by
  exact ⟨⟨_, rfl, rfl, rfl⟩, ⟨_, rfl, rfl, rfl⟩, ⟨_, rfl, rfl, rfl⟩, ⟨_, rfl, rfl, rfl⟩⟩

/-- WriteRacesWithCompletion: an idle state and a legal word. -/
theorem witness_race : Idle base ∧ cmdLegal 0x04#32 = true := ⟨⟨rfl, rfl⟩, by decide⟩

/-- BitrevPermutes: 1 and 32 are each other's reversals, 0 and 63 their own. -/
theorem witness_bitrev :
    (∀ b, b < 6 → (32 : Fin 64).val.testBit b = (1 : Fin 64).val.testBit (5 - b)) ∧
    (∀ b, b < 6 → (63 : Fin 64).val.testBit b = (63 : Fin 64).val.testBit (5 - b)) := by decide

/-- FmulBounds: the corner of its range, and the corner of the scaled twiddles. -/
theorem witness_fmul :
    fmul (-128) (-128) = 128 ∧ (-128 : Int) ≤ -128 ∧ (-128 : Int) ≤ 127 ∧ (-64 : Int) ≤ 63 ∧ (63 : Int) ≤ 64 := by decide

/-- TwiddleReflection: the end of the reflected half wave. -/
theorem witness_twiddle : (32 : Nat) ≤ 32 ∧ sin64 (32 - 32) = 0 := by decide

/-- FftObeysButterflyEquations: the last stage, its last position. -/
theorem witness_stage : 5 < 6 ∧ 31 < 2 ^ 5 ∧ 0 < 32 / 2 ^ 5 := by decide

/-- FftOfImpulseIsFlat. -/
theorem witness_impulse :
    ({ base with re := bytes [64] } : State).re[(0 : Fin 64)] = 64#8 ∧
    (∀ i : Fin 64, i ≠ 0 → ({ base with re := bytes [64] } : State).re[i] = 0) ∧
    ∀ i : Fin 64, ({ base with re := bytes [64] } : State).im[i] = 0 := by decide +kernel

/-- IsqrtIsFloorSquareRoot: the largest operand. -/
theorem witness_isqrt : (65535 : Nat) < 65536 := by decide

/-- MagComputesMagnitudesAndLevels: the tone off and on; a level of 3 of 8 has thresholds below it and one at it. -/
theorem witness_mag :
    base.toneMode = .off ∧ ({ base with toneMode := .toneBuzzer } : State).toneMode ≠ .off ∧
    (2 : Fin 15).val < 3 ∧ (3 : Fin 15).val = 3 ∧ 3 < base.lmaxSpec.toNat ∧ quantize base 5 = 3 := by decide +kernel

/-- QuantizersAreMonotonic: the reset table ascends. -/
theorem witness_ascending : Ascending resetThr ∧ (4 : Nat) ≤ 5 := by
  refine ⟨?_, by decide⟩
  unfold Ascending
  decide

/-- MagReadsOnlyItsOperands: two states that differ in RE[32] and DISP. -/
theorem witness_mag_operands :
    let u : State := { base with re := base.re.set 32 9, disp := .oscilloscope }
    u ≠ base ∧ (∀ k : Fin 32, base.re[lowerHalf k] = u.re[lowerHalf k] ∧ base.im[lowerHalf k] = u.im[lowerHalf k]) ∧
    base.toneMode = u.toneMode ∧ base.qcfg = u.qcfg ∧ base.thr = u.thr := by
  refine ⟨fun h => absurd (congrArg State.disp h) (by decide), by decide +kernel, rfl, rfl, rfl⟩

/-- A state whose columns 0, 1 and 2 meet the three cases of UPDATE: attack, decay step, count. -/
def columns : State :=
  { base with level := base.level.set 0 7, peak := (base.peak.set 1 5).set 2 5, dcnt := base.dcnt.set 1 3 }

/-- UpdateMergesLevels, PeakDecayProperties, PeakReachesZeroAfterExactly. -/
theorem witness_update :
    columns.peak[(0 : Fin 32)].toNat < columns.level[columns.band[(0 : Fin 32)].toFin].toNat ∧
    (columns.level[columns.band[(1 : Fin 32)].toFin].toNat ≤ columns.peak[(1 : Fin 32)].toNat ∧
      max columns.droop.toNat 1 ≤ columns.dcnt[(1 : Fin 32)].toNat + 1) ∧
    (columns.level[columns.band[(2 : Fin 32)].toFin].toNat ≤ columns.peak[(2 : Fin 32)].toNat ∧
      columns.dcnt[(2 : Fin 32)].toNat + 1 < max columns.droop.toNat 1) ∧
    (columns.dcnt[(2 : Fin 32)] = 0 ∧ columns.level[columns.band[(2 : Fin 32)].toFin] = 0) ∧
    (∃ t, exec .update columns = .next t ∧ t.peak[(1 : Fin 32)].toNat < columns.peak[(1 : Fin 32)].toNat ∧
      t.cur[(1 : Fin 32)].toNat ≤ columns.peak[(1 : Fin 32)].toNat) := by
  refine ⟨by decide +kernel, by decide +kernel, by decide +kernel, by decide +kernel, _, rfl, ?_⟩
  decide +kernel

/-- DisplayStateWriters: an instruction that changes FB, and one that changes CUR. -/
theorem witness_display_writers :
    (∃ t, exec .render (barState 0) = .next t ∧ t.fb ≠ (barState 0).fb) ∧
    (∃ t, exec .update columns = .next t ∧ t.cur ≠ columns.cur) :=
  ⟨⟨_, rfl, by decide +kernel⟩, ⟨_, rfl, by decide +kernel⟩⟩

/-- DataArrayWriters: an instruction that changes each array. -/
theorem witness_data_writers :
    (∃ t, exec (.wr 0x07F#9 1#32) base = .next t ∧ t.re ≠ base.re) ∧
    (∃ t, exec (.wr 0x080#9 1#32) base = .next t ∧ t.im ≠ base.im) ∧
    (∃ t, exec .mag { base with re := bytes [5] } = .next t ∧ t.mag ≠ base.mag) ∧
    (∃ t, exec (.wr 0x0FF#9 1#32) base = .next t ∧ t.level ≠ base.level) :=
  ⟨⟨_, rfl, by decide +kernel⟩, ⟨_, rfl, by decide +kernel⟩, ⟨_, rfl, by decide +kernel⟩, ⟨_, rfl, by decide +kernel⟩⟩

/-- BtnModeAdvancesToneMode, SweepVisitsEveryIndexInOrder, TickAdvancesSweep: tone modes, the sweep's start, a count that
steps, and one that does not. -/
theorem witness_sweep :
    base.toneMode ≠ .toneBuzzer ∧ ({ base with toneMode := .toneDirect } : State).toneMode ≠ .off ∧ base.toneMode = .off ∧
    base.idx = 1 ∧ base.tcnt = 0 ∧ max base.stepFrames.toNat 1 ≤ ({ base with tcnt := 7 } : State).tcnt.toNat + 1 ∧
    base.tcnt.toNat + 1 < max base.stepFrames.toNat 1 := by decide +kernel

/-- ModeChangesOnlyByButtons: each button changes its mode, and BTN_MODE the bias. -/
theorem witness_buttons :
    (∃ t, exec .btnMode base = .next t ∧ t.toneMode ≠ base.toneMode ∧ t.biasSel ≠ base.biasSel) ∧
    (∃ t, exec .btnDisp base = .next t ∧ t.disp ≠ base.disp) :=
  ⟨⟨_, rfl, by decide +kernel, by decide +kernel⟩, ⟨_, rfl, by decide +kernel⟩⟩

/-- ToneHalfPeriodWriters: a TONE_K write that changes tone_hp. -/
theorem witness_tone_hp : ∃ t, exec (.wr 0x007#9 1200#32) base = .next t ∧ t.toneHp ≠ base.toneHp :=
  ⟨_, rfl, by decide +kernel⟩

/-- HalfPeriodsAreDistinct: the ends of its range. -/
theorem witness_half_periods :
    base.idx ≠ 0 ∧ 1 ≤ (1#8).toNat ∧ (1#8).toNat ≤ 32 ∧ 1 ≤ (32#8).toNat ∧ (32#8).toNat ≤ 32 ∧ (1#8 : Byte) ≠ 32#8 := by
  decide +kernel

/-- FrameIsItsParts, FrameEqualsCommandSequence: idle states in both display modes. -/
theorem witness_frame :
    Idle base ∧ base.disp = .spectrum ∧ Idle { base with disp := .oscilloscope } ∧
    ({ base with disp := .oscilloscope } : State).disp = .oscilloscope := ⟨⟨rfl, rfl⟩, rfl, ⟨rfl, rfl⟩, rfl⟩

/-- SilentFrameIsDark. -/
theorem witness_silence :
    base.disp = .spectrum ∧ base.toneMode = .off ∧ 0 < (base.thr[(0 : Fin 15)]).toNat ∧ (∀ i : Fin 64, base.re[i] = 0) ∧
    base.ctrl.getLsbD 0 = false ∧ base.ctrl.getLsbD 2 = false := by decide +kernel

/-- OutputPortsFollowState. -/
theorem witness_ports : base.rstN = true ∧ base.idx ≠ 0 := by decide +kernel

end Sys2Proof.Tests
end

section
/-! The output ports (R44): what each port reads, and O59. -/

namespace Sys2Proof.Machine

variable (s : State)

theorem State.irq_eq_ctrl_and_done : s.irq = (s.ctrl.getLsbD 3 && s.done) := rfl

theorem State.toneEn_iff : s.toneEn = true ↔ s.toneMode ≠ .off := decide_eq_true_iff

theorem State.biasSel_iff : s.biasSel = true ↔ s.toneMode ≠ .off := decide_eq_true_iff

/-- The model divides bit vectors; both its division and `Nat`'s answer 0 for IDX = 0, so no hypothesis on IDX is needed. -/
theorem State.toNat_toneHp : s.toneHp.toNat = s.toneK.toNat / s.idx.toNat := by
  have widened : (s.idx.setWidth 16).toNat = s.idx.toNat := BitVec.toNat_setWidth_of_le (by decide)
  rw [State.toneHp, BitVec.toNat_udiv, widened]

theorem ToneMode.toNat_code (m : ToneMode) :
    m.code.toNat = if m = .off then 0 else if m = .toneDirect then 1 else 2 := by
  cases m with
  | off => rfl
  | toneDirect => rfl
  | toneBuzzer => rfl

end Sys2Proof.Machine

namespace Sys2Proof

/-- Settles O59: each port is its field or quotient in every state, so `rst_n` high and IDX not 0 are not used. -/
theorem outputPortsFollowState : Obligations.OutputPortsFollowState := by
  intro s _
  exact ⟨s.irq_eq_ctrl_and_done, fun _ => s.toNat_toneHp, s.toneEn_iff, s.toneMode.toNat_code, s.biasSel_iff⟩

end Sys2Proof
end

section
/-! Host accesses by address and by BUSY: O15, O16 and O18 (20_memory.md R61, R64, R65, R68, R70, R72). -/

namespace Sys2Proof.Machine

open Sys2Proof.Claims

/-! ## Fields of a word -/

/-- A field of a word in the arithmetic the statements are written in (R12). For the lowest field, `lo = 0`, the two sides
without the division are one term by definition, so the one-field registers below need no rewriting. -/
theorem bits_eq_ofNat_div (v : Word) (lo len : Nat) : bits v lo len = BitVec.ofNat len (v.toNat / 2 ^ lo) := by
  rw [bits, BitVec.extractLsb', Nat.shiftRight_eq_div_pow]

theorem zext32_flags : ∀ b3 b2 b1 b0 : Bool,
    zext32 (BitVec.ofBool b3 ++ BitVec.ofBool b2 ++ BitVec.ofBool b1 ++ BitVec.ofBool b0) =
      BitVec.ofNat 32 (8 * b3.toNat + 4 * b2.toNat + 2 * b1.toNat + b0.toNat) := by decide

theorem readTarget_status (s : State) : readTarget .status s =
    BitVec.ofNat 32 (8 * s.errBusy.toNat + 4 * s.errCmd.toNat + 2 * s.done.toNat + s.busy.toNat) :=
  zext32_flags s.errBusy s.errCmd s.done s.busy

theorem writeTarget_qcfg (v : Word) (s : State) : writeTarget .qcfg v s =
    { s with lmaxSpec := BitVec.ofNat 4 v.toNat, lmaxTone := BitVec.ofNat 4 (v.toNat / 16),
             toneShift := BitVec.ofNat 3 (v.toNat / 256), toneSub := BitVec.ofNat 4 (v.toNat / 4096) } := by
  simp [writeTarget, bits_eq_ofNat_div]

theorem writeTarget_toneCfg (v : Word) (s : State) : writeTarget .toneCfg v s =
    { s with fmax := BitVec.ofNat 8 v.toNat, stepFrames := BitVec.ofNat 8 (v.toNat / 256) } := by
  simp [writeTarget, bits_eq_ofNat_div]

/-! ## What the addresses of a range name -/

/-- A property of every address of a range holds of an address within its bounds: the tables of the map go by index
(R62), `isReserved` and `isReadOnly` by bounds. -/
theorem of_mem_addr_range (P : Addr → Prop) {a : Addr} {base : Nat} (n : Nat)
    (table : ∀ i : Fin n, P (BitVec.ofNat 9 (base + i))) (lower : base ≤ a.toNat) (upper : a.toNat < base + n) : P a := by
  have element := table ⟨a.toNat - base, by omega⟩
  rwa [Nat.add_sub_cancel' lower, BitVec.ofNat_toNat, BitVec.setWidth_eq] at element

theorem target_of_isReserved {a : Addr} (h : isReserved a) : target a = .reserved := by
  rcases h with ⟨lower, upper⟩ | ⟨lower, upper⟩ | only | lower
  · exact of_mem_addr_range (target · = .reserved) 53 (by decide) lower (by omega)
  · exact of_mem_addr_range (target · = .reserved) 8 (by decide) lower (by omega)
  · exact of_mem_addr_range (target · = .reserved) 1 (by decide) only.ge (by omega)
  · exact of_mem_addr_range (target · = .reserved) 79 (by decide) lower a.isLt

/-- Whether an accepted write can change anything: CMD, STATUS and the writable fields (R65, R70). `writeTarget_eq_self`
ties it to the model. -/
def Target.takesWrite : Target → Bool
  | .ctrl | .status | .cmd | .droop | .qcfg | .toneCfg | .toneK => true
  | .re _ | .im _ | .level _ | .thr _ | .band _ => true
  | .id | .mode | .toneState | .toneHp | .mag _ | .cur _ | .peak _ | .dcnt _ | .fb _ | .sinq _ | .reserved => false

theorem writeTarget_eq_self {t : Target} (h : t.takesWrite = false) (v : Word) (s : State) : writeTarget t v s = s := by
  cases t
  case id | mode | toneState | toneHp | mag | cur | peak | dcnt | fb | sinq | reserved => rfl
  all_goals cases h

theorem takesWrite_of_isReadOnly {a : Addr} (h : isReadOnly a) : (target a).takesWrite = false := by
  rcases h with only | ⟨lower, upper⟩ | ⟨lower, upper⟩ | ⟨lower, upper⟩ | ⟨lower, upper⟩
  · exact of_mem_addr_range (fun b => (target b).takesWrite = false) 1 (by decide) only.ge (by omega)
  · exact of_mem_addr_range (fun b => (target b).takesWrite = false) 3 (by decide) lower (by omega)
  · exact of_mem_addr_range (fun b => (target b).takesWrite = false) 32 (by decide) lower (by omega)
  · exact of_mem_addr_range (fun b => (target b).takesWrite = false) 104 (by decide) lower (by omega)
  · exact of_mem_addr_range (fun b => (target b).takesWrite = false) 17 (by decide) lower (by omega)

theorem takesWrite_of_isReserved {a : Addr} (h : isReserved a) : (target a).takesWrite = false := by
  rw [target_of_isReserved h]; rfl

/-! ## Transactions: the cases of R64, R65 and R72 -/

theorem exec_rd (a : Addr) (s : State) :
    exec (.rd a) s = .next { s with reads := memRead a s :: s.reads, draws := s.draws + readDraws a s } := rfl

theorem exec_wr (a : Addr) (v : Word) (s : State) : exec (.wr a v) s = .next (memWrite a v s) := rfl

theorem exec_cmdIssue (w : Word) (s : State) : exec (.cmdIssue w) s = .next (memWrite 0x003#9 w s) := rfl

section
variable {s : State} {a : Addr} {t : Target} (out : s.rstN = true)
include out

theorem returns_mapped (read : s.busy = false ∨ a = 0x000#9 ∨ a = 0x002#9) (names : target a = t) :
    Returns s a (readTarget t s) := by
  obtain ⟨word, noDraw⟩ := memRead_mapped out read
  rw [Returns, exec_rd, word, noDraw, names]; rfl

theorem writes_status (v : Word) : Writes s 0x002#9 v
    { s with done := s.done && !v.getLsbD 1, errCmd := s.errCmd && !v.getLsbD 2, errBusy := s.errBusy && !v.getLsbD 3 } := by
  rw [Writes, exec_wr, memWrite_status out]; rfl

theorem writes_discarded (busy : s.busy = true) (other : a ≠ 0x002#9) (v : Word) :
    Writes s a v { s with errBusy := true } := by
  rw [Writes, exec_wr, memWrite_busy out busy other]; rfl

theorem writes_mapped (idle : s.busy = false) (names : target a = t) {v : Word} {u : State} (stores : writeTarget t v s = u) :
    Writes s a v u := by
  rw [Writes, exec_wr, memWrite_idle out idle, names, stores]

theorem writes_inert (idle : s.busy = false) (inert : (target a).takesWrite = false) (v : Word) : Writes s a v s :=
  writes_mapped out idle rfl (writeTarget_eq_self inert v s)

theorem cmdIssue_idle (idle : s.busy = false) (w : Word) : exec (.cmdIssue w) s = .next
    (if cmdLegal w then { s with pending := some w, done := false } else { s with errCmd := true }) := by
  rw [exec_cmdIssue, memWrite_cmd_idle out idle]; rfl

theorem cmdIssue_discarded (busy : s.busy = true) (w : Word) : exec (.cmdIssue w) s = .next { s with errBusy := true } :=
  writes_discarded out busy (by decide) w

end

end Sys2Proof.Machine

namespace Sys2Proof

open Sys2Proof.Machine Sys2Proof.Claims

/-- Settles O15: STATUS and BUSY = 1 by their own rules, every other address by what the map says it names. -/
theorem writeStoresField : Obligations.WriteStoresField := by
  intro s v out
  refine ⟨writes_status out v, fun busy a other => writes_discarded out busy other v, fun idle => ?_⟩
  refine ⟨?ctrl, cmdIssue_idle out idle v, ?droop, ?qcfg, ?toneCfg, ?toneK, ?reIm, ?levelBand, ?thr, ?inert⟩
  case ctrl => exact writes_mapped out idle (t := .ctrl) rfl rfl
  case droop => exact writes_mapped out idle (t := .droop) rfl rfl
  case qcfg => exact writes_mapped out idle rfl (writeTarget_qcfg v s)
  case toneCfg => exact writes_mapped out idle rfl (writeTarget_toneCfg v s)
  case toneK => exact writes_mapped out idle (t := .toneK) rfl rfl
  case reIm => exact fun i => ⟨writes_mapped out idle (target_re i) rfl, writes_mapped out idle (target_im i) rfl⟩
  case levelBand => exact fun k => ⟨writes_mapped out idle (target_level k) rfl, writes_mapped out idle (target_band k) rfl⟩
  case thr => exact fun i => writes_mapped out idle (target_thr i) rfl
  case inert =>
    intro a h
    exact writes_inert out idle (h.elim takesWrite_of_isReadOnly takesWrite_of_isReserved) v

/-- Settles O16: a reserved address names nothing, and no write is taken by it or by a read-only one. -/
theorem reservedAndReadOnlyAddresses : Obligations.ReservedAndReadOnlyAddresses := by
  rintro s ⟨out, idle⟩ a v
  constructor
  · rintro (reserved | rfl)
    · exact returns_mapped out (.inl idle) (target_of_isReserved reserved)
    · exact returns_mapped out (.inl idle) (t := .cmd) rfl
  · intro h
    exact writes_inert out idle (h.elim takesWrite_of_isReserved takesWrite_of_isReadOnly) v

/-- Settles O18: the word of a read that is neither of ID nor of STATUS is the next draw. -/
theorem accessWhileCommandInFlight : Obligations.AccessWhileCommandInFlight := by
  intro s out busy a v
  refine ⟨fun other => writes_discarded out busy other v, cmdIssue_discarded out busy v, writes_status out v, ?id, ?status,
    ?draw⟩
  case id => exact returns_mapped out (.inr (.inl rfl)) (t := .id) rfl
  case status =>
    have word := returns_mapped out (.inr (.inr rfl)) (t := .status) rfl
    rwa [readTarget_status, busy] at word
  case draw =>
    intro notId notStatus
    obtain ⟨word, one⟩ := memRead_draw out busy notId notStatus
    exact ⟨Config.freeValue s.draws, by rw [exec_rd, word, one]⟩

end Sys2Proof
end

section
/-! The legality of a command word, ground by ground (30_encoding.md R94), and O4. -/

namespace Sys2Proof

/-! ## The fields of a command word in the arithmetic the statements are written in -/

theorem toNat_cmdOp (w : Word) : (cmdOp w).toNat = w.toNat % 16 := by simp [cmdOp]

theorem cmdOp_eq_iff (w : Word) (op : BitVec 4) : cmdOp w = op ↔ w.toNat % 16 = op.toNat := by
  rw [← toNat_cmdOp, BitVec.toNat_inj]

theorem cmdReserved_eq_zero_iff (w : Word) : cmdReserved w = 0 ↔ w.toNat / 64 = 0 := by
  have fits : w.toNat / 64 < 2 ^ 26 := by have := w.isLt; omega
  rw [← BitVec.toNat_inj, cmdReserved, BitVec.extractLsb'_toNat, Nat.shiftRight_eq_div_pow, Nat.mod_eq_of_lt fits]
  rfl

theorem cmdArguments_iff (w : Word) : (cmdInv w || cmdScale w) = true ↔ w.toNat / 16 % 4 ≠ 0 := by
  have inv : cmdInv w = decide (w.toNat / 16 % 2 = 1) := Nat.testBit_eq_decide_div_mod_eq
  have scale : cmdScale w = decide (w.toNat / 32 % 2 = 1) := Nat.testBit_eq_decide_div_mod_eq
  rw [inv, scale, Bool.or_eq_true, decide_eq_true_iff, decide_eq_true_iff]
  omega

/-! ## The grounds on which a word is illegal -/

theorem commandOfOp_isSome : ∀ (op : BitVec 4) (inv scale : Bool),
    (commandOfOp op inv scale).toOption.isSome = decide (op.toNat < 0xD) := by decide

/-- The decoder's three tests, each a ground of its own; their order only decides which name a word is rejected by. -/
theorem cmdLegal_eq_false_iff (w : Word) : cmdLegal w = false ↔
    (cmdOp w).toNat ≥ 0xD ∨ cmdReserved w ≠ 0 ∨ (cmdOp w ≠ 0x3#4 ∧ (cmdInv w || cmdScale w) = true) := by
  rw [cmdLegal, decodeCmd]
  split
  case isTrue reserved => exact iff_of_true rfl (.inr (.inl reserved))
  case isFalse clear =>
    split
    case isTrue stray =>
      rw [Bool.and_eq_true, bne_iff_ne, and_comm] at stray
      exact iff_of_true rfl (.inr (.inr stray))
    case isFalse plain =>
      rw [Bool.and_eq_true, bne_iff_ne, and_comm] at plain
      rw [commandOfOp_isSome, decide_eq_false_iff_not, Nat.not_lt]
      exact (or_iff_left (not_or.mpr ⟨clear, plain⟩)).symm

open Sys2Proof.Machine

/-- Settles O4: the decoder's grounds are those of R94, and the issue of a word goes by BUSY first (R72), then by legality. -/
theorem illegalWordRaisesCmdErrorOnly : Obligations.IllegalWordRaisesCmdErrorOnly := by
  refine ⟨fun w => ?grounds, fun w s out illegal idle => ?illegal, fun w s out busy => cmdIssue_discarded out busy w⟩
  case grounds =>
    rw [cmdLegal_eq_false_iff, toNat_cmdOp, Ne, Ne, cmdReserved_eq_zero_iff, cmdOp_eq_iff, cmdArguments_iff]
    rfl
  case illegal =>
    rw [cmdIssue_idle out idle, illegal]
    rfl

end Sys2Proof
end

section
/-! The FFT engine command by command (40_fft.md R110, R112, R114 to R120): O26, O27, O30 and O34. -/

namespace Sys2Proof.Machine

open Sys2Proof.Claims

/-- A command leaves its body's state but for the completion (R220). -/
theorem completes_body {i : Instr} (command : i.format = .cmd) (s : State) : Completes i s (body i s) :=
  exec_command command s

/-! ## Bit reversal -/

theorem testBit_rev6 : ∀ (i : Fin 64) (b : Fin 6), (rev6 i).val.testBit b = i.val.testBit (5 - b) := by decide

/-- The six reversed bits determine the index (R112). -/
theorem eq_rev6 {i j : Fin 64} (reversed : ∀ b, b < 6 → j.val.testBit b = i.val.testBit (5 - b)) : j = rev6 i := by
  refine Fin.ext (Nat.eq_of_testBit_eq fun b => ?_)
  rcases Nat.lt_or_ge b 6 with low | high
  · exact (reversed b low).trans (testBit_rev6 i ⟨b, low⟩).symm
  · have beyond : 2 ^ 6 ≤ 2 ^ b := Nat.pow_le_pow_right (by decide) high
    rw [Nat.testBit_lt_two_pow (j.isLt.trans_le beyond), Nat.testBit_lt_two_pow ((rev6 i).isLt.trans_le beyond)]

/-! ## One butterfly as a rule on elements -/

/-- Element k as a complex number: its real and its imaginary byte. -/
def Coeffs.elem (c : Coeffs) (k : Fin 64) : Byte × Byte := (c.re[k], c.im[k])

/-- What R116 stores in the upper element of a pair that held `x` and `y`. -/
def upperResult (scale : Bool) (wr wi : Int) (x y : Byte × Byte) : Byte × Byte :=
  (n8 (halveIf scale x.1.toInt + (fmul wr y.1.toInt - fmul wi y.2.toInt)),
    n8 (halveIf scale x.2.toInt + (fmul wr y.2.toInt + fmul wi y.1.toInt)))

/-- What R116 stores in the lower element of a pair that held `x` and `y`. -/
def lowerResult (scale : Bool) (wr wi : Int) (x y : Byte × Byte) : Byte × Byte :=
  (n8 (halveIf scale x.1.toInt - (fmul wr y.1.toInt - fmul wi y.2.toInt)),
    n8 (halveIf scale x.2.toInt - (fmul wr y.2.toInt + fmul wi y.1.toInt)))

section
variable (scale : Bool) (wr wi : Int) {i jj : Fin 64} (c : Coeffs)

theorem elem_butterfly_upper : (butterfly scale wr wi i jj c).elem i = upperResult scale wr wi (c.elem i) (c.elem jj) :=
  Prod.ext_iff.mpr (butterfly_upper scale wr wi i jj c)

theorem elem_butterfly_lower (distinct : i ≠ jj) :
    (butterfly scale wr wi i jj c).elem jj = lowerResult scale wr wi (c.elem i) (c.elem jj) :=
  Prod.ext_iff.mpr (butterfly_lower scale wr wi c distinct)

theorem elem_butterfly_other {k : Fin 64} (notUpper : k ≠ i) (notLower : k ≠ jj) :
    (butterfly scale wr wi i jj c).elem k = c.elem k :=
  Prod.ext_iff.mpr (butterfly_other scale wr wi c notUpper notLower)

end

/-! ## The pairs of a stage are disjoint -/

/-- The butterflies of stage t + 1, each as its position and its group, in the order of R117. -/
def stagePairs (t : Nat) : List (Nat × Nat) := List.range (2 ^ t) ×ˢ List.range (32 / 2 ^ t)

/-- The upper element of a butterfly of stage t + 1. -/
def upper (t : Nat) (p : Nat × Nat) : Fin 64 := element (p.1 + p.2 * 2 ^ (t + 1))

/-- The lower element of a butterfly of stage t + 1. -/
def lower (t : Nat) (p : Nat × Nat) : Fin 64 := element (p.1 + p.2 * 2 ^ (t + 1) + 2 ^ t)

/-- The one butterfly of stage t + 1 that an element belongs to. -/
def owner (t : Nat) (k : Fin 64) : Nat × Nat := (k.val % 2 ^ t, k.val / 2 ^ (t + 1))

theorem mem_stagePairs {t : Nat} {p : Nat × Nat} : p ∈ stagePairs t ↔ p.1 < 2 ^ t ∧ p.2 < 32 / 2 ^ t := by
  rw [stagePairs, List.mem_product, List.mem_range, List.mem_range]

/-- The bit of the index that tells the lower element from the upper is the one `owner` drops. -/
theorem owner_eq {t : Nat} {p : Nat × Nat} (inStage : p ∈ stagePairs t) {k : Fin 64} {half : Nat} (bit : half < 2)
    (place : k.val = p.1 + p.2 * 2 ^ (t + 1) + half * 2 ^ t) : owner t k = p := by
  obtain ⟨position, -⟩ := mem_stagePairs.mp inStage
  have blocks : k.val = p.1 + 2 ^ t * (2 * p.2 + half) := by rw [place]; ring
  refine Prod.ext ?position ?group
  case position => exact (congrArg (· % 2 ^ t) blocks).trans (by rw [Nat.add_mul_mod_self_left, Nat.mod_eq_of_lt position])
  case group =>
    rw [owner, blocks, pow_succ, ← Nat.div_div_eq_div_mul, Nat.add_mul_div_left _ _ (Nat.two_pow_pos t),
      Nat.div_eq_of_lt position]
    omega

theorem nodup_stagePairs (t : Nat) : (stagePairs t).Nodup := List.nodup_range.product List.nodup_range

section
variable {t : Nat} {p : Nat × Nat} (six : t < 6) (inStage : p ∈ stagePairs t)
include six inStage

theorem lower_in_range : p.1 + p.2 * 2 ^ (t + 1) + 2 ^ t < 64 := by
  obtain ⟨position, group⟩ := mem_stagePairs.mp inStage
  interval_cases t <;> omega

theorem val_lower : (lower t p).val = p.1 + p.2 * 2 ^ (t + 1) + 2 ^ t := Nat.mod_eq_of_lt (lower_in_range six inStage)

theorem val_upper : (upper t p).val = p.1 + p.2 * 2 ^ (t + 1) :=
  Nat.mod_eq_of_lt (Nat.lt_of_add_right_lt (lower_in_range six inStage))

theorem upper_ne_lower : upper t p ≠ lower t p := by
  refine Fin.ne_of_val_ne ?_
  rw [val_upper six inStage, val_lower six inStage]
  exact (Nat.lt_add_of_pos_right (Nat.two_pow_pos t)).ne

theorem owner_upper : owner t (upper t p) = p :=
  owner_eq inStage (half := 0) (by decide) (by rw [val_upper six inStage]; omega)

theorem owner_lower : owner t (lower t p) = p :=
  owner_eq inStage (half := 1) (by decide) (by rw [val_lower six inStage, Nat.one_mul])

end

/-! ## A stage obeys the rule of R116 at every pair -/

section
variable (inv scale : Bool) (t : Nat)

/-- Butterfly `p` of stage t + 1, with the twiddle of its position (R117). -/
def pairStep (c : Coeffs) (p : Nat × Nat) : Coeffs :=
  butterfly scale (twiddleRe scale (p.1 * 2 ^ (5 - t))) (twiddleIm inv scale (p.1 * 2 ^ (5 - t))) (upper t p) (lower t p) c

/-- The equations of R116 for butterfly `p` of stage t + 1, from the arrays `a` to the arrays `b`. -/
def PairRule (p : Nat × Nat) (a b : Coeffs) : Prop :=
  let wr := twiddleRe scale (p.1 * 2 ^ (5 - t))
  let wi := twiddleIm inv scale (p.1 * 2 ^ (5 - t))
  b.elem (upper t p) = upperResult scale wr wi (a.elem (upper t p)) (a.elem (lower t p)) ∧
  b.elem (lower t p) = lowerResult scale wr wi (a.elem (upper t p)) (a.elem (lower t p))

theorem stage_eq_foldl (c : Coeffs) : stage inv scale t c = (stagePairs t).foldl (pairStep inv scale t) c := by
  simp only [stage, stagePosition, stagePairs, SProd.sprod, List.product, List.foldl_flatMap, List.foldl_map, pairStep,
    upper, lower, pow_succ']

variable {inv scale t} (six : t < 6)
include six

theorem elem_pairStep_other {p : Nat × Nat} (c : Coeffs) {k : Fin 64} (inStage : p ∈ stagePairs t) (other : owner t k ≠ p) :
    (pairStep inv scale t c p).elem k = c.elem k := by
  refine elem_butterfly_other _ _ _ c ?_ ?_
  · rintro rfl; exact other (owner_upper six inStage)
  · rintro rfl; exact other (owner_lower six inStage)

theorem elem_foldl_pairStep_other {l : List (Nat × Nat)} (inStage : l ⊆ stagePairs t) (c : Coeffs) {k : Fin 64}
    (other : owner t k ∉ l) : (l.foldl (pairStep inv scale t) c).elem k = c.elem k := by
  induction l generalizing c with
  | nil => rfl
  | cons q l ih =>
    obtain ⟨first, rest⟩ := List.cons_subset.mp inStage
    obtain ⟨notFirst, notRest⟩ := not_or.mp (List.mem_cons.not.mp other)
    rw [List.foldl_cons, ih rest _ notRest, elem_pairStep_other six c first notFirst]

theorem pairRule_pairStep {p : Nat × Nat} (c : Coeffs) (inStage : p ∈ stagePairs t) :
    PairRule inv scale t p c (pairStep inv scale t c p) :=
  ⟨elem_butterfly_upper _ _ _ c, elem_butterfly_lower _ _ _ c (upper_ne_lower six inStage)⟩

/-- Each butterfly reads and writes its own pair only, so the order of the butterflies of a stage does not matter: every one
finds its pair as the stage began and leaves it as the stage ends. -/
theorem pairRule_foldl {l : List (Nat × Nat)} (inStage : l ⊆ stagePairs t) (once : l.Nodup) (c : Coeffs) {p : Nat × Nat}
    (member : p ∈ l) : PairRule inv scale t p c (l.foldl (pairStep inv scale t) c) := by
  induction l generalizing c with
  | nil => cases member
  | cons q l ih =>
    obtain ⟨first, rest⟩ := List.cons_subset.mp inStage
    obtain ⟨notAgain, onceRest⟩ := List.nodup_cons.mp once
    have ownerUpper := owner_upper six (inStage member)
    have ownerLower := owner_lower six (inStage member)
    rw [List.foldl_cons]
    rcases List.mem_cons.mp member with rfl | later
    · have unchanged {k : Fin 64} (own : owner t k = p) :=
        elem_foldl_pairStep_other (inv := inv) (scale := scale) six rest (pairStep inv scale t c p) (own ▸ notAgain)
      rw [PairRule, unchanged ownerUpper, unchanged ownerLower]
      exact pairRule_pairStep six c first
    · have notFirst : p ≠ q := fun same => notAgain (same ▸ later)
      have unchanged {k : Fin 64} (own : owner t k = p) :=
        elem_pairStep_other (inv := inv) (scale := scale) six c first (own ▸ notFirst)
      have rule := ih rest onceRest (pairStep inv scale t c q) later
      rwa [PairRule, unchanged ownerUpper, unchanged ownerLower] at rule

theorem stageRule_stage (c : Coeffs) : StageRule inv scale t c (stage inv scale t c) := by
  intro mm g position group
  obtain ⟨ruleUpper, ruleLower⟩ := stage_eq_foldl inv scale t c ▸
    pairRule_foldl six (List.Subset.refl _) (nodup_stagePairs t) c (mem_stagePairs (p := (mm, g)).mpr ⟨position, group⟩)
  obtain ⟨upperRe, upperIm⟩ := Prod.ext_iff.mp ruleUpper
  obtain ⟨lowerRe, lowerIm⟩ := Prod.ext_iff.mp ruleLower
  exact ⟨lowerRe, lowerIm, upperRe, upperIm⟩

end

/-! ## The transform -/

/-- The arrays after the permutation and the first `n` stages (R117). -/
def afterStages (inv scale : Bool) (c : Coeffs) (n : Nat) : Coeffs :=
  (List.range n).foldl (fun c t => stage inv scale t c) { re := bitrevArray c.re, im := bitrevArray c.im }

theorem afterStages_succ (inv scale : Bool) (c : Coeffs) (n : Nat) :
    afterStages inv scale c (n + 1) = stage inv scale n (afterStages inv scale c n) := by
  rw [afterStages, List.range_succ, List.foldl_append]; rfl

theorem transform_eq_afterStages (inv scale : Bool) (c : Coeffs) : transform inv scale c = afterStages inv scale c 6 := by
  unfold transform; rfl

end Sys2Proof.Machine

namespace Sys2Proof

open Sys2Proof.Machine Sys2Proof.Claims

/-- Settles O34: the arrays after each stage, with the rule of R116 at every pair of the stage. -/
theorem fftObeysButterflyEquations : Obligations.FftObeysButterflyEquations := by
  intro inv scale s
  refine ⟨afterStages inv scale ⟨s.re, s.im⟩, fun i => ?start, fun t six => ?stage, ?completes⟩
  case start => exact ⟨getElem_bitrevArray s.re i i.isLt, getElem_bitrevArray s.im i i.isLt⟩
  case stage =>
    rw [afterStages_succ]
    exact stageRule_stage six _
  case completes =>
    rw [← transform_eq_afterStages]
    exact completes_body rfl s

/-- Settles O27: the index whose bits are i's in reverse is rev6(i). -/
theorem bitrevPermutes : Obligations.BitrevPermutes := by
  intro s
  refine ⟨bitrevArray s.re, bitrevArray s.im, completes_body rfl s, fun i j reversed => ?_⟩
  rw [eq_rev6 reversed]
  exact ⟨getElem_bitrevArray s.re i i.isLt, getElem_bitrevArray s.im i i.isLt⟩

/-- Settles O26: the body of CLRIM. -/
theorem clrimClearsIm : Obligations.ClrimClearsIm := by
  intro s
  refine ⟨(clrim s).im, fun i => ?_, completes_body rfl s⟩
  rw [clrim, Fin.getElem_fin, Vector.getElem_replicate]

/-- Settles O30: `asr` is a floor division, so 64 added beforehand rounds to nearest. -/
theorem fmulRoundsToNearest : Obligations.FmulRoundsToNearest := by
  intro w x
  rw [fmul_eq]
  omega

end Sys2Proof
end

section
/-! The twiddles (40_fft.md R111, R113): O33 by the period of `sin64` and one table, O32 by rotation in the complex plane. -/

namespace Sys2Proof.Machine

/-! ## The reflection -/

/-- An angle index counts modulo a full turn (R113). -/
theorem sin64_mod (j : Nat) : sin64 (j % 64) = sin64 j := by rw [sin64, Nat.mod_mod, ← sin64]

theorem sin64_add_turn (j : Nat) : sin64 (j + 64) = sin64 j := by
  rw [← sin64_mod, Nat.add_mod_right, sin64_mod]

theorem sin64_eq_sinq : ∀ r : Fin 17, sin64 r.val = (sinq[r]).toInt := by decide

theorem sin64_half_turn_table : ∀ j : Fin 64, sin64 (j.val + 32) = -sin64 j.val := by decide

theorem sin64_add_half_turn (j : Nat) : sin64 (j + 32) = -sin64 j := by
  have table := sin64_half_turn_table (Fin.ofNat 64 j)
  rwa [Fin.val_ofNat, ← sin64_mod, Nat.mod_add_mod, sin64_mod, sin64_mod] at table

theorem sin64_reflect : ∀ j : Fin 33, sin64 (32 - j.val) = sin64 j.val := by decide

theorem sin64_bounds_table : ∀ j : Fin 64, -127 ≤ sin64 j.val ∧ sin64 j.val ≤ 127 := by decide

theorem sin64_bounds (j : Nat) : -127 ≤ sin64 j ∧ sin64 j ≤ 127 :=
  sin64_mod j ▸ sin64_bounds_table (Fin.ofNat 64 j)

/-! ## The quarter sine

The entries are the rounded imaginary parts of the powers of `exp (i pi / 32)`. A Gaussian integer close to `10^6` times that
number is turned into all of them by exact arithmetic; both numbers have norm at most 1, so the error grows only linearly. -/

theorem norm_pow_sub_pow_le {z w : ℂ} (hz : ‖z‖ ≤ 1) (hw : ‖w‖ ≤ 1) (k : Nat) : ‖z ^ k - w ^ k‖ ≤ k * ‖z - w‖ := by
  induction k with
  | zero => simp
  | succ k ih =>
    calc ‖z ^ (k + 1) - w ^ (k + 1)‖ = ‖z * (z ^ k - w ^ k) + (z - w) * w ^ k‖ := by ring_nf
      _ ≤ ‖z‖ * ‖z ^ k - w ^ k‖ + ‖z - w‖ * ‖w‖ ^ k := by
        rw [← norm_mul, ← norm_pow, ← norm_mul]; exact norm_add_le _ _
      _ ≤ 1 * (k * ‖z - w‖) + ‖z - w‖ * 1 := by
        gcongr
        exact pow_le_one₀ (norm_nonneg w) hw
      _ = (k + 1 : Nat) * ‖z - w‖ := by push_cast; ring

/-- `10^6 exp (i pi / 32)`, its parts truncated to integers. -/
def turn : GaussianInt := ⟨995184, 98017⟩

theorem norm_turn_le : ‖(turn : ℂ) / 10 ^ 6‖ ≤ 1 := by
  have inside : turn.norm ≤ (10 ^ 6) ^ 2 := by decide
  have square : ‖(turn : ℂ)‖ ^ 2 ≤ (10 ^ 6) ^ 2 := by
    rw [Complex.sq_norm, ← GaussianInt.intCast_real_norm]
    exact_mod_cast inside
  rw [norm_div, norm_pow, Complex.norm_ofNat]
  exact div_le_one_of_le₀ ((sq_le_sq₀ (norm_nonneg _) (by norm_num)).mp square) (by norm_num)

theorem cos_sin_near_turn : |Real.cos (Real.pi / 32) - turn.re / 10 ^ 6| ≤ 9 / 10 ^ 6 ∧
    |Real.sin (Real.pi / 32) - turn.im / 10 ^ 6| ≤ 1 / 10 ^ 6 := by
  have lower : 0.0981747 ≤ Real.pi / 32 := by linarith [Real.pi_gt_d6]
  have upper : Real.pi / 32 ≤ 0.0981748 := by linarith [Real.pi_lt_d6]
  generalize Real.pi / 32 = x at lower upper
  have nonneg : 0 ≤ x := by linarith
  have small : |x| ≤ 1 := by rw [abs_of_nonneg nonneg]; linarith
  have powers (n : Nat) : 0.0981747 ^ n ≤ x ^ n ∧ x ^ n ≤ 0.0981748 ^ n := ⟨by gcongr, by gcongr⟩
  have square := powers 2
  have cube := powers 3
  have fourth := powers 4
  have fifth := powers 5
  have taylorCos := abs_le.mp (Real.cos_bound small)
  have taylorSin := abs_le.mp (Real.sin_bound small)
  rw [abs_of_nonneg nonneg] at taylorCos taylorSin
  simp only [turn, abs_le]
  push_cast
  refine ⟨⟨?_, ?_⟩, ?_, ?_⟩ <;> linarith

theorem turn_pow (k : Nat) :
    ((turn : ℂ) / 10 ^ 6) ^ k = ⟨(turn ^ k).re / 10 ^ (6 * k), (turn ^ k).im / 10 ^ (6 * k)⟩ := by
  have quotient : ((turn : ℂ) / 10 ^ 6) ^ k = ((turn ^ k : GaussianInt) : ℂ) / (10 ^ (6 * k) : ℝ) := by
    rw [div_pow, ← pow_mul, map_pow]; norm_num
  rw [quotient]
  refine Complex.ext ?re ?im
  case re => rw [Complex.div_ofReal_re, GaussianInt.intCast_re]
  case im => rw [Complex.div_ofReal_im, GaussianInt.intCast_im]

theorem turn_near : ‖Complex.exp ((Real.pi / 32 : ℝ) * Complex.I) - turn / 10 ^ 6‖ ≤ 1 / 10 ^ 5 := by
  obtain ⟨cosine, sine⟩ := cos_sin_near_turn
  have parts := turn_pow 1
  rw [pow_one, pow_one, mul_one] at parts
  refine (Complex.norm_le_abs_re_add_abs_im _).trans ?_
  rw [parts, Complex.sub_re, Complex.sub_im, Complex.exp_ofReal_mul_I_re, Complex.exp_ofReal_mul_I_im]
  linarith

/-- The sine of `k` 64ths of a turn is within `k / 10^5` of the imaginary part of the approximate rotation. -/
theorem sin_near (k : Nat) :
    |Real.sin (2 * Real.pi * k / 64) - (turn ^ k).im / 10 ^ (6 * k)| ≤ k / 10 ^ 5 := by
  have angle : Complex.exp ((Real.pi / 32 : ℝ) * Complex.I) ^ k = Complex.exp ((2 * Real.pi * k / 64 : ℝ) * Complex.I) := by
    rw [← Complex.exp_nat_mul]; push_cast; ring_nf
  calc
    _ = |(Complex.exp ((Real.pi / 32 : ℝ) * Complex.I) ^ k - ((turn : ℂ) / 10 ^ 6) ^ k).im| := by
      rw [Complex.sub_im, angle, Complex.exp_ofReal_mul_I_im, turn_pow]
    _ ≤ ‖Complex.exp ((Real.pi / 32 : ℝ) * Complex.I) ^ k - ((turn : ℂ) / 10 ^ 6) ^ k‖ := Complex.abs_im_le_norm _
    _ ≤ k * ‖Complex.exp ((Real.pi / 32 : ℝ) * Complex.I) - turn / 10 ^ 6‖ :=
      norm_pow_sub_pow_le (Complex.norm_exp_ofReal_mul_I _).le norm_turn_le k
    _ ≤ k * (1 / 10 ^ 5) := by gcongr; exact turn_near
    _ = k / 10 ^ 5 := by ring

/-- The exact rotation of `turn` leaves each entry of SINQ no other rounding, with room for the error of `sin_near`; all is
multiplied by `2 * 10^5 * 10^(6 k)`, so that the table is one of integers. -/
theorem sinq_rounds_turn_table : ∀ k : Fin 17,
    (2 * sinq[k].toInt - 1) * (10 ^ (6 * k.val) * 10 ^ 5) ≤
      254 * ((turn ^ k.val).im * 10 ^ 5 - k.val * 10 ^ (6 * k.val)) ∧
    254 * ((turn ^ k.val).im * 10 ^ 5 + k.val * 10 ^ (6 * k.val)) <
      (2 * sinq[k].toInt + 1) * (10 ^ (6 * k.val) * 10 ^ 5) := by
  decide

theorem sinq_rounds_turn (k : Fin 17) :
    (sinq[k].toInt : ℝ) - 1 / 2 ≤ 127 * ((turn ^ k.val).im / 10 ^ (6 * k.val) - k.val / 10 ^ 5) ∧
    127 * ((turn ^ k.val).im / 10 ^ (6 * k.val) + k.val / 10 ^ 5) < (sinq[k].toInt : ℝ) + 1 / 2 := by
  obtain ⟨lower, upper⟩ := sinq_rounds_turn_table k
  rify at lower upper
  constructor
  · rw [div_sub_div _ _ (by positivity) (by positivity), mul_div_assoc', le_div_iff₀ (by positivity)]
    linarith
  · rw [div_add_div _ _ (by positivity) (by positivity), mul_div_assoc', div_lt_iff₀ (by positivity)]
    linarith

end Sys2Proof.Machine

namespace Sys2Proof

open Sys2Proof.Machine

/-- Settles O32: the sine, the rotated `turn` and the entry lie within half a unit of each other. -/
theorem sinqIsRoundedSine : Obligations.SinqIsRoundedSine := by
  intro k
  obtain ⟨lower, upper⟩ := abs_le.mp (sin_near k)
  obtain ⟨roundLower, roundUpper⟩ := sinq_rounds_turn k
  refine (Int.floor_eq_iff.mpr ⟨?_, ?_⟩).symm <;> linarith

/-- Settles O33: the period reduces every index to a table of 64. -/
theorem twiddleReflection : Obligations.TwiddleReflection := by
  refine ⟨sin64_eq_sinq, fun j => ⟨sin64_add_turn j, sin64_add_half_turn j, rfl, fun half => ?_, sin64_bounds j⟩⟩
  exact sin64_reflect ⟨j, Nat.lt_succ_of_le half⟩

end Sys2Proof
end

section
/-! MAG (41_magnitude.md R141 to R147): the square root's loop, the two quantizers, and O37. -/

namespace Sys2Proof.Machine

/-! ## The square root -/

/-- The loop of R141 with `n` iterations left: `r` is the root found so far, `x` the operand less `r * r`, and the root lies
below `r + 2 ^ n`. The loop holds `r` as `r * 2 ^ n`, and as its bit `4 ^ n / 4`, the square of the step `2 ^ (n - 1)` that
it tries next. -/
theorem isqrtLoop_eq_sqrt (n : Nat) : ∀ x r : Nat, x + r * r < (r + 2 ^ n) * (r + 2 ^ n) →
    isqrtLoop n x (r * 2 ^ n) (4 ^ n / 4) = Nat.sqrt (x + r * r) := by
  induction n with
  | zero =>
    intro x r below
    rw [isqrtLoop, pow_zero, mul_one]
    exact Nat.eq_sqrt.mpr ⟨Nat.le_add_left _ _, below⟩
  | succ n ih =>
    intro x r below
    have bit : 2 ^ n * 2 ^ n = 4 ^ n := (mul_pow 2 2 n).symm
    have half : r * 2 ^ (n + 1) / 2 = r * 2 ^ n := by
      rw [pow_succ, ← mul_assoc, Nat.mul_div_cancel _ (by decide)]
    have square : (r + 2 ^ n) * (r + 2 ^ n) = r * r + (r * 2 ^ (n + 1) + 4 ^ n) := by
      rw [← bit]
      ring
    rw [isqrtLoop, pow_succ 4, Nat.mul_div_cancel _ (by decide), half]
    split
    next fits =>
      have operand : x - (r * 2 ^ (n + 1) + 4 ^ n) + (r + 2 ^ n) * (r + 2 ^ n) = x + r * r := by omega
      have root : r * 2 ^ n + 4 ^ n = (r + 2 ^ n) * 2 ^ n := by rw [add_mul, bit]
      rw [root, ← operand]
      refine ih _ _ ?_
      rwa [operand, add_assoc, ← two_mul, ← pow_succ']
    next exceeds => exact ih _ _ (by omega)

/-- R141: isqrt is the integer square root of every 16-bit operand. -/
theorem isqrt_eq_sqrt {p : Nat} (operand : p < 65536) : isqrt p = Nat.sqrt p :=
  isqrtLoop_eq_sqrt 8 p 0 operand

/-! ## The power of a bin (R142) -/

theorem sq_toInt_le (b : Byte) : b.toInt * b.toInt ≤ 128 * 128 :=
  abs_le_iff_mul_self_le.mp (abs_le.mpr ⟨b.le_toInt, b.toInt_lt.le⟩)

theorem cast_power (re im : Byte) : (power re im : Int) = re.toInt * re.toInt + im.toInt * im.toInt :=
  Int.toNat_of_nonneg (add_nonneg (mul_self_nonneg _) (mul_self_nonneg _))

theorem power_le (re im : Byte) : power re im ≤ 32768 := by
  have cast := cast_power re im
  have reSq := sq_toInt_le re
  have imSq := sq_toInt_le im
  omega

theorem magnitude_eq_sqrt (s : State) (k : Fin 32) :
    magnitude s k = Nat.sqrt (power s.re[lowerHalf k] s.im[lowerHalf k]) :=
  isqrt_eq_sqrt ((power_le _ _).trans_lt (by decide))

theorem magnitude_lt (s : State) (k : Fin 32) : magnitude s k < 256 := by
  rw [magnitude_eq_sqrt, Nat.sqrt_lt]
  exact (power_le _ _).trans_lt (by decide)

/-- R147 with R141: MAG[k] is the integer square root of the power of bin k. -/
theorem magnitude_bounds (s : State) (k : Fin 32) :
    magnitude s k * magnitude s k ≤ power s.re[lowerHalf k] s.im[lowerHalf k] ∧
      power s.re[lowerHalf k] s.im[lowerHalf k] < (magnitude s k + 1) * (magnitude s k + 1) := by
  rw [magnitude_eq_sqrt]
  exact ⟨Nat.sqrt_le _, Nat.lt_succ_sqrt _⟩

/-! ## The threshold quantizer (R144) -/

section
variable (thr : Vector Byte 15) (lm m : Nat)

theorem qthr_le : qthr thr lm m ≤ lm :=
  List.findIdx_le_length.trans (List.length_take_le _ _)

theorem thr_le_of_lt_qthr {i : Fin 15} (below : i.val < qthr thr lm m) : thr[i].toNat ≤ m := by
  simpa using List.not_of_lt_findIdx below

theorem lt_thr_of_eq_qthr {i : Fin 15} (found : i.val = qthr thr lm m) (inTable : qthr thr lm m < lm) :
    m < thr[i].toNat := by
  have inList : i.val < (thr.toList.take lm).length := by
    rw [List.length_take, Vector.length_toList]
    omega
  obtain ⟨reached, -⟩ := (List.findIdx_eq inList).mp found.symm
  simpa using reached

end

/-! ## The linear quantizer (R145) -/

theorem cast_qlin (shift sub lt m : Nat) :
    (qlin shift sub lt m : Int) = min (max ((m : Int) / 2 ^ shift - sub) 0) lt :=
  Int.toNat_of_nonneg (le_min (le_max_right _ _) (Int.natCast_nonneg lt))

theorem qlin_le (shift sub lt m : Nat) : qlin shift sub lt m ≤ lt := by
  have cast := cast_qlin shift sub lt m
  omega

/-! ## The quantizer that TONE_MODE selects (R143) -/

theorem quantize_of_off {s : State} (off : s.toneMode = .off) (m : Nat) :
    quantize s m = qthr s.thr s.lmaxSpec.toNat m := by rw [quantize, off]

theorem quantize_of_tone {s : State} (tone : s.toneMode ≠ .off) (m : Nat) :
    quantize s m = qlin s.toneShift.toNat s.toneSub.toNat s.lmaxTone.toNat m := by
  rw [quantize]
  split
  next off => exact absurd off tone
  next => rfl
  next => rfl

theorem quantize_lt (s : State) (m : Nat) : quantize s m < 16 := by
  by_cases off : s.toneMode = .off
  · rw [quantize_of_off off]
    exact (qthr_le _ _ _).trans_lt s.lmaxSpec.isLt
  · rw [quantize_of_tone off]
    exact (qlin_le _ _ _ _).trans_lt s.lmaxTone.isLt

/-! ## MAG stores what it computes: no narrowing loses a bit -/

theorem toNat_magBody_mag (s : State) (k : Fin 32) : (magBody s).mag[k].toNat = magnitude s k := by
  simp [magBody, Nat.mod_eq_of_lt (magnitude_lt s k)]

theorem toNat_magBody_level (s : State) (k : Fin 32) : (magBody s).level[k].toNat = quantize s (magnitude s k) := by
  simp [magBody, Nat.mod_eq_of_lt (quantize_lt s _)]

end Sys2Proof.Machine

namespace Sys2Proof

open Sys2Proof.Machine

/-- Settles O37: MAG holds `magnitude`, the integer square root by the loop's invariant, and LEVEL holds `quantize` of it, of
which the two quantizers' rules say the rest. -/
theorem magComputesMagnitudesAndLevels : Obligations.MagComputesMagnitudesAndLevels := by
  intro s
  refine ⟨(magBody s).mag, (magBody s).level, completes_body rfl s, fun k => ?_⟩
  simp only [toNat_magBody_mag, toNat_magBody_level, ← cast_power]
  obtain ⟨rootLower, rootUpper⟩ := magnitude_bounds s k
  refine ⟨mod_cast rootLower, mod_cast rootUpper, fun off => ?_, fun tone => ?_⟩
  · rw [quantize_of_off off]
    exact ⟨qthr_le _ _ _, fun i below => Int.ofNat_le.mpr (thr_le_of_lt_qthr _ _ _ below),
      fun i found inTable => Int.ofNat_lt.mpr (lt_thr_of_eq_qthr _ _ _ found inTable)⟩
  · rw [quantize_of_tone tone]
    exact cast_qlin _ _ _ _

end Sys2Proof
end

section
/-! The display (42_display.md): UPDATE by columns, RENDER and SCOPE by the bits of a row, and O40, O43, O44 and O45. -/

namespace Sys2Proof.Machine

/-! ## UPDATE: the three cases of R162 -/

section
variable {deff : Nat} {lvl : Level} {c : Column}

theorem updateColumn_attack (attack : c.peak < lvl) : updateColumn deff lvl c = { cur := lvl, peak := lvl, dcnt := 0 } :=
  if_pos attack

theorem updateColumn_decay (held : lvl ≤ c.peak) (due : deff ≤ c.dcnt.toNat + 1) : updateColumn deff lvl c =
    { cur := lvl, peak := if lvl < c.peak then c.peak - 1 else c.peak, dcnt := 0 } := by
  rw [updateColumn, if_neg (BitVec.not_lt.mpr held), if_pos due]

theorem updateColumn_count (held : lvl ≤ c.peak) (early : c.dcnt.toNat + 1 < deff) : updateColumn deff lvl c =
    { cur := lvl, peak := c.peak, dcnt := c.dcnt + 1 } := by
  rw [updateColumn, if_neg (BitVec.not_lt.mpr held), if_neg early.not_ge]

theorem updateColumn_cur : (updateColumn deff lvl c).cur = lvl := by
  rw [updateColumn]
  split
  next => rfl
  next => split <;> rfl

end

theorem column_update (s : State) (d : Fin 32) : (update s).column d = updatedColumn s d := by
  simp [State.column, update]

/-- The decay step never borrows: it lowers only a peak that is above some level. -/
theorem toNat_decayedPeak (lvl p : Level) :
    (if lvl < p then p - 1 else p).toNat = if lvl.toNat < p.toNat then p.toNat - 1 else p.toNat := by
  simp only [BitVec.lt_def]
  split
  next above => exact BitVec.toNat_sub_of_le (BitVec.le_def.mpr (Nat.one_le_of_lt above))
  next => rfl

theorem effectiveDroop_lt (s : State) : effectiveDroop s < 256 := Nat.max_lt.mpr ⟨s.droop.isLt, by decide⟩

/-- A count that stays below Deff does not wrap. -/
theorem toNat_add_one_of_lt_effectiveDroop {s : State} {n : Byte} (early : n.toNat + 1 < effectiveDroop s) :
    (n + 1).toNat = n.toNat + 1 :=
  BitVec.toNat_add_of_lt (early.trans (effectiveDroop_lt s))

/-! ## Rows whose columns are drawn apart -/

/-- Where no two columns share a position, the bit at a column's position is that column's own. -/
theorem getLsbD_drawRow (lit : Fin 32 → Bool) {pos : Fin 32 → Fin 32} (apart : Function.Injective pos) (d : Fin 32) :
    (drawRow lit pos).getLsbD (pos d).val = lit d := by
  rw [BitVec.getLsbD_eq_getElem (pos d).isLt, Bool.eq_iff_iff, drawRow_bit]
  simp only [apart.eq_iff, exists_eq_right]

theorem columnPos_injective (mirror : Bool) : Function.Injective (columnPos mirror) := by
  cases mirror with
  | false => exact Function.injective_id
  | true => exact Fin.rev_injective

theorem val_columnPos (mirror : Bool) (d : Fin 32) : (columnPos mirror d).val = if mirror then 31 - d.val else d.val := by
  cases mirror with
  | false => rfl
  | true => exact (Fin.val_rev d).trans (Nat.succ_sub_succ 31 d)

/-! ## RENDER -/

theorem getLsbD_render (s : State) (r : Fin 8) (d : Fin 32) :
    (render s).fb[r].getLsbD (columnPos s.mirror d).val = rowLit s r d := by
  rw [render, Fin.getElem_fin, getElem_tabulate, getLsbD_drawRow _ (columnPos_injective _)]

theorem dotLit_eq (v : Level) (r : Fin 8) :
    dotLit v r = decide (1 ≤ v.toNat ∧ r.val = min v.toNat 8 - 1) := by
  rw [dotLit, Bool.decide_and, BEq.comm]
  rfl

theorem toNat_fillLevel (s : State) (d : Fin 32) :
    (s.fillLevel d).toNat = if s.fsrc then s.peak[d].toNat else s.cur[d].toNat := apply_ite BitVec.toNat _ _ _

/-- The row test of RENDER in Dot (R168) and in Fill (R164, R167). -/
theorem rowLit_eq (s : State) (r : Fin 8) (d : Fin 32) : rowLit s r d =
    if s.dot then decide (1 ≤ s.peak[d].toNat ∧ r.val = min s.peak[d].toNat 8 - 1)
    else decide (r.val + 1 ≤ if s.fsrc then s.peak[d].toNat else s.cur[d].toNat) := by
  rw [rowLit, dotLit_eq, fillLit, toNat_fillLevel]

/-! ## SCOPE -/

theorem getLsbD_scope (s : State) (r : Fin 8) (c : Fin 32) : (scope s).fb[r].getLsbD c.val = scopeLit s r c := by
  rw [scope, Fin.getElem_fin, getElem_tabulate]
  exact getLsbD_drawRow _ Function.injective_id c

/-- Inverting the sign bit turns two's complement into offset binary. -/
theorem toNat_xor_signBit : ∀ b : Byte, ((b ^^^ 0x80#8).toNat : Int) = b.toInt + 128 := by decide

/-- R170: the row of a sample is bits 7:5 of its pattern, bit 7 inverted. -/
theorem scopeRow_eq (b : Byte) : scopeRow b = ((b ^^^ 0x80#8).toNat / 32 : Nat) := by
  rw [scopeRow, Int.natCast_ediv, toNat_xor_signBit]
  rfl

end Sys2Proof.Machine

namespace Sys2Proof

open Sys2Proof.Machine

/-- Settles O40: each column goes by the case of R162 that its hypotheses name. -/
theorem updateMergesLevels : Obligations.UpdateMergesLevels := by
  intro s
  refine ⟨(update s).cur, (update s).peak, (update s).dcnt, completes_body rfl s, fun d => ?_⟩
  refine ⟨?cur, fun attack => ?attack, fun held due => ?decay, fun held early => ?count⟩
  case cur => exact congrArg BitVec.toNat ((congrArg Column.cur (column_update s d)).trans updateColumn_cur)
  case attack =>
    have column := (column_update s d).trans (updateColumn_attack (BitVec.lt_def.mpr attack))
    exact ⟨congrArg (·.peak.toNat) column, congrArg (·.dcnt.toNat) column⟩
  case decay =>
    have column := (column_update s d).trans (updateColumn_decay (BitVec.le_def.mpr held) due)
    exact ⟨(congrArg (·.peak.toNat) column).trans (toNat_decayedPeak _ _), congrArg (·.dcnt.toNat) column⟩
  case count =>
    have column := (column_update s d).trans (updateColumn_count (BitVec.le_def.mpr held) early)
    exact ⟨congrArg (·.peak.toNat) column,
      (congrArg (·.dcnt.toNat) column).trans (toNat_add_one_of_lt_effectiveDroop early)⟩

/-- Settles O43: the columns' positions are distinct, so bit pos(d) is column d's own row test. -/
theorem renderDrawsColumns : Obligations.RenderDrawsColumns := by
  intro s
  refine ⟨(render s).fb, completes_body rfl s, fun r d => ?_⟩
  have bit := getLsbD_render s r d
  rwa [val_columnPos, rowLit_eq] at bit

/-- Settles O44: a sample's row as a floor division and as bits 7:5 in offset binary are one number. -/
theorem scopeDrawsSamples : Obligations.ScopeDrawsSamples := by
  intro s
  refine ⟨(scope s).fb, completes_body rfl s, fun r c => ?_⟩
  rw [getLsbD_scope, scopeLit, beq_eq_decide]
  refine ⟨?pattern, rfl⟩
  rw [scopeRow_eq, decide_eq_decide, Int.natCast_inj, eq_comm]

/-- Settles O45: the display-state reset leaves every element 0. -/
theorem clrdispResetsDisplay : Obligations.ClrdispResetsDisplay := by
  intro s
  refine ⟨(resetDisplay s).cur, (resetDisplay s).peak, (resetDisplay s).dcnt, (resetDisplay s).fb, completes_body rfl s,
    fun d => ⟨?_, ?_, ?_⟩, fun r => ?_⟩
  all_goals exact Vector.getElem_replicate _

end Sys2Proof
end

section
/-! The modes and the tone sweep (43_mode_tone.md R191 to R196): what each instruction does to MODE, TICK by the cases of
R196, and O48, O50, O51 and O52. -/

namespace Sys2Proof.Machine

/-! ## What an instruction and a host write can do -/

/-- Every instruction that answers a next state is a read, a write (CMD_ISSUE is the write of CMD), or a command's body and
its completion. -/
theorem exec_next_cases {i : Instr} {s t : State} (answers : exec i s = .next t) :
    (i.format = .bus ∧ t = { s with reads := t.reads, draws := t.draws }) ∨
    (i.format = .bus ∧ ∃ a v, t = memWrite a v s) ∨
    (i.format = .cmd ∧ t = complete (body i s)) := by
  cases format : i.format with
  | cmd => exact .inr (.inr ⟨rfl, Host.Outcome.next.inj (answers.symm.trans (exec_command format s))⟩)
  | bus =>
    cases i
    case rd a => cases answers; exact .inl ⟨rfl, rfl⟩
    case wr a v => exact .inr (.inl ⟨rfl, a, v, (Host.Outcome.next.inj answers).symm⟩)
    case cmdIssue w => exact .inr (.inl ⟨rfl, 0x003#9, w, (Host.Outcome.next.inj answers).symm⟩)
    all_goals cases format

/-- R65, R72, R270: a write is without effect, a BusyError, or what the register map says. -/
theorem memWrite_cases (a : Addr) (v : Word) (s : State) :
    memWrite a v s = s ∨ memWrite a v s = raise .busy s ∨ memWrite a v s = writeTarget (target a) v s := by
  rw [memWrite]
  split
  next low => exact .inl rfl
  next out =>
    split
    next refused => exact .inr (.inl rfl)
    next accepted => exact .inr (.inr rfl)

theorem issueCommand_cases (w : Word) (s : State) : issueCommand w s = acceptCommand w s ∨ issueCommand w s = raise .cmd s := by
  cases legal : cmdLegal w with
  | true => exact .inl (issueCommand_legal legal s)
  | false => exact .inr (issueCommand_illegal legal s)

/-! ## Who writes MODE (R36, R190) -/

section
variable (v : Word) (s : State)

theorem issueCommand_keeps_mode : (issueCommand v s).toneMode = s.toneMode ∧ (issueCommand v s).disp = s.disp := by
  rcases issueCommand_cases v s with accepted | refused
  · rw [accepted]; exact ⟨rfl, rfl⟩
  · rw [refused]; exact ⟨rfl, rfl⟩

theorem writeTarget_keeps_mode (t : Target) :
    (writeTarget t v s).toneMode = s.toneMode ∧ (writeTarget t v s).disp = s.disp := by
  cases t
  case cmd => exact issueCommand_keeps_mode v s
  all_goals exact ⟨rfl, rfl⟩

theorem memWrite_keeps_mode (a : Addr) : (memWrite a v s).toneMode = s.toneMode ∧ (memWrite a v s).disp = s.disp := by
  rcases memWrite_cases a v s with same | busy | stored
  · rw [same]; exact ⟨rfl, rfl⟩
  · rw [busy]; exact ⟨rfl, rfl⟩
  · rw [stored]; exact writeTarget_keeps_mode v s (target a)

end

section
variable {i : Instr} (s : State) {t : State}

theorem body_toneMode (other : i ≠ .btnMode) : (body i s).toneMode = s.toneMode := by
  cases i
  case btnMode => exact absurd rfl other
  case tick => exact tick_toneMode s
  case frame => exact frameBody_toneMode s
  all_goals rfl

theorem body_disp (other : i ≠ .btnDisp) : (body i s).disp = s.disp := by
  cases i
  case btnDisp => exact absurd rfl other
  case tick => exact tick_disp s
  case frame => exact frameBody_disp s
  all_goals rfl

variable {s} (answers : exec i s = .next t)
include answers

theorem exec_toneMode (other : i ≠ .btnMode) : t.toneMode = s.toneMode := by
  rcases exec_next_cases answers with ⟨-, read⟩ | ⟨-, a, v, rfl⟩ | ⟨-, rfl⟩
  · rw [read]
  · exact (memWrite_keeps_mode v s a).left
  · exact body_toneMode s other

theorem exec_disp (other : i ≠ .btnDisp) : t.disp = s.disp := by
  rcases exec_next_cases answers with ⟨-, read⟩ | ⟨-, a, v, rfl⟩ | ⟨-, rfl⟩
  · rw [read]
  · exact (memWrite_keeps_mode v s a).right
  · exact body_disp s other

end

/-! ## The tone modes (R191) and the ports they drive (R44, R195) -/

theorem nextToneMode_with_buzzer (m : ToneMode) : nextToneMode true m =
    if m = .off then .toneDirect else if m = .toneDirect then .toneBuzzer else .off := by
  cases m with
  | off => rfl
  | toneDirect => rfl
  | toneBuzzer => rfl

theorem nextToneMode_without_buzzer (m : ToneMode) : nextToneMode false m = if m = .off then .toneDirect else .off := by
  cases m with
  | off => rfl
  | toneDirect => rfl
  | toneBuzzer => rfl

theorem ToneMode.code_injective : Function.Injective ToneMode.code := by
  intro m n
  cases m <;> cases n <;> decide

/-- R195: the step that enters or leaves Off is the one that changes whether the mode is Off. -/
theorem nextToneMode_crosses_off (m : ToneMode) :
    decide (nextToneMode Config.hasBuzzer m ≠ .off) ≠ decide (m ≠ .off) ↔
      m = .off ∨ nextToneMode Config.hasBuzzer m = .off := by
  cases m with
  | off => decide
  | toneDirect => decide
  | toneBuzzer => decide

theorem exec_biasSel_ne_iff {i : Instr} {s t : State} (answers : exec i s = .next t) :
    t.biasSel ≠ s.biasSel ↔ i = .btnMode ∧ (s.toneMode = .off ∨ t.toneMode = .off) := by
  by_cases button : i = .btnMode
  case pos =>
    subst button
    cases answers
    exact (nextToneMode_crosses_off s.toneMode).trans (and_iff_right rfl).symm
  case neg =>
    have same : t.biasSel = s.biasSel := congrArg (fun m => decide (m ≠ ToneMode.off)) (exec_toneMode answers button)
    exact iff_of_false (not_not_intro same) fun pressed => button pressed.left

/-! ## The display-state reset (R172) -/

theorem resetDisplay_zero (s : State) :
    (∀ d : Fin 32, (resetDisplay s).cur[d] = 0 ∧ (resetDisplay s).peak[d] = 0 ∧ (resetDisplay s).dcnt[d] = 0) ∧
    ∀ r : Fin 8, (resetDisplay s).fb[r] = 0 :=
  ⟨fun _ => ⟨Vector.getElem_replicate _, Vector.getElem_replicate _, Vector.getElem_replicate _⟩,
    fun _ => Vector.getElem_replicate _⟩

theorem Disp.toggle_eq (m : Disp) : m.toggle = if m = .spectrum then .oscilloscope else .spectrum := by
  cases m with
  | spectrum => rfl
  | oscilloscope => rfl

/-! ## TICK: the three cases of R196 -/

section
variable {s : State}

theorem tick_of_off (off : s.toneMode = .off) : tick s = s := if_pos off

theorem tick_step (tone : s.toneMode ≠ .off) (due : framesPerStep s ≤ s.tcnt.toNat + 1) :
    tick s = { s with tcnt := 0, idx := if topIndex s ≤ s.idx.toNat then 1 else s.idx + 1 } :=
  (if_neg tone).trans (if_pos due)

theorem tick_count (tone : s.toneMode ≠ .off) (early : s.tcnt.toNat + 1 < framesPerStep s) :
    tick s = { s with tcnt := s.tcnt + 1 } :=
  (if_neg tone).trans (if_neg early.not_ge)

/-- IDX does not wrap as a byte: it is incremented only below Fm. -/
theorem toNat_steppedIndex : (if topIndex s ≤ s.idx.toNat then 1 else s.idx + 1).toNat =
    if topIndex s ≤ s.idx.toNat then 1 else s.idx.toNat + 1 := by
  split
  next wrap => rfl
  next below =>
    have top : topIndex s < 256 := Nat.max_lt.mpr ⟨s.fmax.isLt, by decide⟩
    exact BitVec.toNat_add_of_lt (show s.idx.toNat + 1 < 256 by omega)

/-- TCNT does not wrap as a byte: it is incremented only below St - 1. -/
theorem toNat_countedFrames (early : s.tcnt.toNat + 1 < framesPerStep s) : (s.tcnt + 1).toNat = s.tcnt.toNat + 1 :=
  have frames : framesPerStep s < 256 := Nat.max_lt.mpr ⟨s.stepFrames.isLt, by decide⟩
  BitVec.toNat_add_of_lt (early.trans frames)

end

end Sys2Proof.Machine

namespace Sys2Proof

open Sys2Proof.Machine

/-- Settles O50: a toggle of DISP, then the display-state reset. -/
theorem btnDispTogglesDisplay : Obligations.BtnDispTogglesDisplay := by
  intro s
  refine ⟨(resetDisplay s).cur, (resetDisplay s).peak, (resetDisplay s).dcnt, (resetDisplay s).fb, ?_, resetDisplay_zero s⟩
  rw [← Disp.toggle_eq]
  exact completes_body rfl s

/-- Settles O48: the two settings of HAS_BUZZER are the two values of `nextToneMode`'s parameter. -/
theorem btnModeAdvancesToneMode : Obligations.BtnModeAdvancesToneMode := by
  refine ⟨fun s => ?built, fun s _ => nextToneMode_without_buzzer s.toneMode⟩
  refine ⟨(resetDisplay s).cur, (resetDisplay s).peak, (resetDisplay s).dcnt, (resetDisplay s).fb, ?_, resetDisplay_zero s⟩
  rw [← nextToneMode_with_buzzer]
  exact completes_body rfl s

/-- Settles O51: every other instruction keeps MODE, and the ports are functions of it. -/
theorem modeChangesOnlyByButtons : Obligations.ModeChangesOnlyByButtons := by
  intro i s t answers
  have crosses := exec_biasSel_ne_iff answers
  -- tone_en and bias_sel are one function of TONE_MODE (R44)
  exact ⟨s.biasSel_iff, not_imp_comm.mp (exec_toneMode answers), not_imp_comm.mp (exec_disp answers), crosses, crosses,
    ToneMode.code_injective.ne_iff⟩

/-- Settles O52: the byte that a case increments stays below its bound, so it counts as a number. -/
theorem tickAdvancesSweep : Obligations.TickAdvancesSweep := by
  intro s
  refine ⟨(tick s).idx, (tick s).tcnt, ?completes, fun off => ?off, fun tone due => ?step, fun tone early => ?count⟩
  case completes => rw [← tick_frame]; exact completes_body rfl s
  case off => rw [tick_of_off off]; exact ⟨rfl, rfl⟩
  case step => rw [tick_step tone due]; exact ⟨rfl, toNat_steppedIndex⟩
  case count => rw [tick_count tone early]; exact ⟨toNat_countedFrames early, rfl⟩

end Sys2Proof
end

section
/-! The life of a command and the parts of a frame (44_control.md R220 to R224): O20, O22 and O56. -/

namespace Sys2Proof.Machine

/-- R221 for a legal word, in the words of the statements. -/
theorem cmdIssue_accepted {s : State} (out : s.rstN = true) (idle : s.busy = false) {w : Word} (legal : cmdLegal w = true) :
    exec (.cmdIssue w) s = .next { s with pending := some w, done := false } := by
  rw [cmdIssue_idle out idle, if_pos legal]

/-! ## No command reads PENDING or DONE: a body does the same after a completion as before it -/

section
variable (s : State)

theorem tick_complete : tick (complete s) = complete (tick s) := by
  by_cases off : s.toneMode = .off
  case pos => rw [tick_of_off off, tick_of_off (s := complete s) off]
  case neg =>
    rcases Nat.lt_or_ge (s.tcnt.toNat + 1) (framesPerStep s) with early | due
    · rw [tick_count off early, tick_count (s := complete s) off early]; rfl
    · rw [tick_step off due, tick_step (s := complete s) off due]; rfl

variable {s}

theorem framePath_of_spectrum (spectrum : s.disp = .spectrum) :
    framePath s = render (update (magBody (fft false true (clrim s)))) := by
  rw [framePath, spectrum]

theorem framePath_of_oscilloscope (oscilloscope : s.disp = .oscilloscope) : framePath s = scope s := by
  rw [framePath, oscilloscope]

variable (s)

theorem framePath_complete : framePath (complete s) = complete (framePath s) := by
  cases disp : s.disp with
  | spectrum => rw [framePath_of_spectrum disp, framePath_of_spectrum (s := complete s) disp]; rfl
  | oscilloscope => rw [framePath_of_oscilloscope disp, framePath_of_oscilloscope (s := complete s) disp]; rfl

theorem body_complete (i : Instr) : body i (complete s) = complete (body i s) := by
  cases i
  case tick => exact tick_complete s
  case frame => exact (congrArg tick (framePath_complete s)).trans (tick_complete _)
  all_goals rfl

/-- A command performed after another has completed: the earlier completion leaves no trace of its own. -/
theorem exec_command_complete {i : Instr} (command : i.format = .cmd) :
    exec i (complete s) = .next (complete (body i s)) := by
  rw [exec_command command, body_complete, complete_complete]

theorem exec_frame : exec .frame s = .next (complete (tick (framePath s))) := rfl

end

end Sys2Proof.Machine

namespace Sys2Proof

open Sys2Proof.Machine Sys2Proof.Claims

/-- Settles O20: BUSY decides first whether the word reaches IssueCommand (R72), then its legality. -/
theorem issueCommandAcceptsLegalWords : Obligations.IssueCommandAcceptsLegalWords := by
  obtain ⟨-, rejected, discarded⟩ := illegalWordRaisesCmdErrorOnly
  intro s v out
  exact ⟨fun idle legal => ⟨cmdIssue_accepted out idle legal, busy_acceptCommand s v⟩,
    fun idle illegal => rejected v s out illegal idle, discarded v s out⟩

/-- Settles O22: the body of NOP is empty, and its word, 0, is legal. -/
theorem nopOnlyCompletes : Obligations.NopOnlyCompletes := by
  intro s
  refine ⟨completes_body rfl s, ?issue⟩
  rintro ⟨out, idle⟩
  exact ⟨_, cmdIssue_accepted out idle (by decide), rfl, busy_acceptCommand s 0⟩

/-- Settles O56: each part ignores the completion of the part before it, so the last one leaves FRAME's own body, completed. -/
theorem frameIsItsParts : Obligations.FrameIsItsParts := by
  intro s
  constructor
  case left =>
    intro spectrum
    refine ⟨_, _, _, _, _, _, exec_command rfl s, exec_command_complete _ rfl, exec_command_complete _ rfl,
      exec_command_complete _ rfl, exec_command_complete _ rfl, exec_command_complete _ rfl, ?_⟩
    rw [exec_frame, framePath_of_spectrum spectrum]
    rfl
  case right =>
    intro oscilloscope
    refine ⟨_, _, exec_command rfl s, exec_command_complete _ rfl, ?_⟩
    rw [exec_frame, framePath_of_oscilloscope oscilloscope]
    rfl

end Sys2Proof
end

section
/-! The interrupt output (60_exceptions.md R244): what each operation on IE and DONE makes of irq, and O23. -/

namespace Sys2Proof.Machine

section
variable (s : State)

/-- The cases of TICK and FRAME, whose bodies branch, go by their own frame lemmas. -/
theorem body_ctrl (i : Instr) : (body i s).ctrl = s.ctrl := by
  cases i
  case tick => exact tick_ctrl s
  case frame => exact frameBody_ctrl s
  all_goals rfl

theorem irq_complete : (complete s).irq = s.ctrl.getLsbD 3 := by
  rw [State.irq_eq_ctrl_and_done, complete_ctrl, complete_done, Bool.and_true]

theorem irq_of_done_eq_false {s : State} (cleared : s.done = false) : s.irq = false := by
  rw [State.irq_eq_ctrl_and_done, cleared, Bool.and_false]

theorem irq_writeTarget_ctrl (v : Word) : (writeTarget .ctrl v s).irq = (v.getLsbD 3 && s.done) := by
  have ie : (bits v 0 4).getLsbD 3 = v.getLsbD 3 := by simp [bits]
  exact congrArg (· && s.done) ie

theorem irq_raise (e : ErrorKind) : (raise e s).irq = s.irq := by
  cases e with
  | cmd => rfl
  | busy => rfl

end

end Sys2Proof.Machine

namespace Sys2Proof

open Sys2Proof.Machine Sys2Proof.Claims

/-- Settles O23: irq follows the one of IE and DONE that each operation writes. -/
theorem irqIsLevelOfDone : Obligations.IrqIsLevelOfDone := by
  refine ⟨State.irq_eq_ctrl_and_done, ?command, ?ctrl, ?clear, ?accept, fun e s => irq_raise s e⟩
  case command =>
    intro i s t command answers
    cases (exec_command command s).symm.trans answers
    rw [irq_complete, body_ctrl]
  case ctrl =>
    rintro s v ⟨out, idle⟩
    exact ⟨_, writes_mapped out idle (t := .ctrl) rfl rfl, irq_writeTarget_ctrl s v⟩
  case clear =>
    intro s v out bit
    refine ⟨_, writes_status out v, irq_of_done_eq_false ?_⟩
    rw [bit, Bool.not_true, Bool.and_false]
  case accept =>
    rintro s w ⟨out, idle⟩ legal
    exact ⟨_, cmdIssue_accepted out idle legal, irq_of_done_eq_false rfl⟩

end Sys2Proof
end

section
/-! The reset pin (70_reset_and_hazards.md R270 to R273): what a low rst_n refuses, what a pulse of it leaves, O12 and O13. -/

namespace Sys2Proof.Machine

open Sys2Proof.Claims

/-! ## While rst_n is low -/

section
variable {s : State} (low : s.rstN = false)
include low

theorem readDraws_low (a : Addr) : readDraws a s = 0 := by simp [readDraws, low]

theorem returns_low (a : Addr) : Returns s a 0 := by
  rw [Returns, exec_rd, memRead_low low, readDraws_low low, Nat.add_zero]

theorem writes_low (a : Addr) (v : Word) : Writes s a v s := by
  rw [Writes, exec_wr, memWrite_low low]

theorem cmdIssue_low (w : Word) : exec (.cmdIssue w) s = .next s := writes_low low 0x003#9 w

end

/-! ## A pulse of rst_n -/

theorem run_succ {M : Host.Core} {s t : M.State} (first : M.step s = .next t) (k : Nat) : M.run (k + 1) s = M.run k t := by
  rw [Host.Core.run, first]

theorem core_step_resetPin (high : Bool) (s : State) (rest : List Input) :
    core.step { s with inputs := .resetPin high :: rest } = .next (setResetPin high { s with inputs := rest }) := rfl

/-- The rise keeps what the fall has set: of the state before the pulse only what is not the block's is left (R270). -/
theorem run_resetPulse (s : State) (rest : List Input) :
    core.run 2 { s with inputs := .resetPin false :: .resetPin true :: rest } =
      .next { State.resetFrom s.draws with inputs := rest, reads := s.reads } := by
  have fall := run_succ (core_step_resetPin false s (.resetPin true :: rest)) 1
  have rise := run_succ (core_step_resetPin true (setResetPin false { s with inputs := rest }) rest) 0
  exact fall.trans rise

/-! ## The reset values of the packed register and of the arrays -/

theorem resetFrom_qcfg (n : Nat) : (State.resetFrom n).qcfg = 0x83F8 := by
  change resetToneSub ++ 0#1 ++ resetToneShift ++ resetLmaxTone ++ resetLmaxSpec = 0x83F8#16
  decide

theorem resetFrom_column (n : Nat) (d : Fin 32) : (State.resetFrom n).column d = { cur := 0, peak := 0, dcnt := 0 } := by
  simp [State.column, State.resetFrom]

theorem resetFrom_fb (n : Nat) (r : Fin 8) : (State.resetFrom n).fb[r] = 0 := by simp [State.resetFrom]

theorem toNat_resetBand (d : Fin 32) : resetBand[d].toNat = d.val := by
  have element : resetBand[d] = BitVec.ofNat 5 d.val := Vector.getElem_ofFn d.isLt
  rw [element, BitVec.toNat_ofNat, Nat.mod_eq_of_lt d.isLt]

theorem toNat_resetThr :
    resetThr.toList.map BitVec.toNat = [2, 3, 5, 8, 12, 20, 32, 50, 72, 96, 120, 140, 160, 176, 255] := rfl

end Sys2Proof.Machine

namespace Sys2Proof

open Sys2Proof.Machine Sys2Proof.Claims

/-- Settles O12: a low pin refuses each transaction, and a pulse leaves the reset state, whose scalar fields are their reset
values by definition. -/
theorem resetPinGivesResetValues : Obligations.ResetPinGivesResetValues := by
  constructor
  case left => exact fun s low a v => ⟨returns_low low a, writes_low low a v, cmdIssue_low low v⟩
  case right =>
    intro s rest
    refine ⟨_, run_resetPulse s rest, rfl, rfl, rfl, rfl, rfl, rfl, rfl, rfl, rfl, rfl, ?qcfg, rfl, rfl, rfl, rfl, rfl, rfl,
      fun d => ?columns, ?fb, ?thr⟩
    case qcfg => exact resetFrom_qcfg s.draws
    case columns =>
      obtain ⟨cur, peak, dcnt⟩ := Column.mk.inj (resetFrom_column s.draws d)
      exact ⟨cur, peak, dcnt, toNat_resetBand d⟩
    case fb => exact resetFrom_fb s.draws
    case thr => exact toNat_resetThr

/-- Settles O13: each is a field of the reset state, or a bit of its CTRL, by definition. -/
theorem resetMode : Obligations.ResetMode := ⟨rfl, rfl, rfl, rfl, rfl, rfl⟩

end Sys2Proof
end

section
/-! The round trips and the legal words (30_encoding.md R90 to R96): a command word without reserved bits is one of 64, so
that what the decoder makes of it is a table; O1, O2, O3, O5 and O6. -/

namespace Sys2Proof

/-! ## A word of its format is decoded as it stands -/

theorem decode_bus_toNat (b : BusWord) : decode .bus b.toNat = .instr (decodeBus b) := by
  rw [decode, if_pos b.isLt, BitVec.ofNat_toNat, BitVec.setWidth_eq]

theorem decode_cmd_toNat (w : Word) : decode .cmd w.toNat = decodeCmd w := by
  rw [decode, if_pos w.isLt, BitVec.ofNat_toNat, BitVec.setWidth_eq]

/-! ## BUS words -/

theorem decodeBus_read (a : Addr) (d : Word) : decodeBus (busWord false a d) = .rd a := by simp [decodeBus]

theorem decodeBus_issue (d : Word) : decodeBus (busWord true 0x003#9 d) = .cmdIssue d := by simp [decodeBus]

theorem decodeBus_write {a : Addr} (other : a ≠ 0x003#9) (d : Word) : decodeBus (busWord true a d) = .wr a d := by
  simp [decodeBus, other]

/-! ## Command words -/

theorem decodeCmd_cmdWord_fft (inv scale : Bool) : decodeCmd (cmdWord scale inv 0x3) = .instr (.fft inv scale) := by
  revert inv scale; decide

/-- What holds of the 64 words of six bits holds of every word without reserved bits (R90). -/
theorem of_cmdReserved_eq_zero {P : Word → Prop} (table : ∀ k : Fin 64, P (BitVec.ofNat 32 k)) {w : Word}
    (clear : cmdReserved w = 0) : P w := by
  have small : w.toNat < 64 := Nat.lt_of_div_eq_zero (by decide) ((cmdReserved_eq_zero_iff w).mp clear)
  have row := table ⟨w.toNat, small⟩
  rwa [BitVec.ofNat_toNat, BitVec.setWidth_eq] at row

theorem cmdReserved_of_legal {w : Word} (legal : cmdLegal w = true) : cmdReserved w = 0 := by
  by_contra reserved
  exact absurd legal (by rw [(cmdLegal_eq_false_iff w).mpr (.inr (.inl reserved))]; decide)

theorem cmdLegal_of_decodeCmd {w : Word} {i : Instr} (decodes : decodeCmd w = .instr i) : cmdLegal w = true := by
  rw [cmdLegal, decodes]; rfl

theorem decodeCmd_reserved {w : Word} (reserved : cmdReserved w ≠ 0) : decodeCmd w = .rejected .reservedBits :=
  if_pos reserved

theorem encode_decodeCmd_table : ∀ k : Fin 64, ∀ i ∈ (decodeCmd (BitVec.ofNat 32 k)).toOption,
    i.format = .cmd ∧ encode i = (BitVec.ofNat 32 k).toNat := by decide

/-- The column "legal words" of R93. -/
def legalWords : List Word :=
  [0x00, 0x01, 0x02, 0x03, 0x13, 0x23, 0x33, 0x04, 0x05, 0x06, 0x07, 0x08, 0x09, 0x0A, 0x0B, 0x0C]

theorem mem_legalWords_table :
    ∀ k : Fin 64, cmdLegal (BitVec.ofNat 32 k) = true → BitVec.ofNat 32 k ∈ legalWords := by decide

theorem legalWords_all_legal : legalWords.all cmdLegal = true := by decide

theorem cmdLegal_iff_mem_legalWords (w : Word) : cmdLegal w = true ↔ w ∈ legalWords :=
  ⟨fun legal => of_cmdReserved_eq_zero (P := fun w => cmdLegal w = true → w ∈ legalWords) mem_legalWords_table
    (cmdReserved_of_legal legal) legal, List.all_eq_true.mp legalWords_all_legal w⟩

/-! ## The mask and match table (R93) -/

/-- Every row demands that the reserved bits be 0. -/
theorem cmdTable_tests_reserved :
    ∀ r ∈ cmdTable, cmdReserved r.mask = BitVec.allOnes 26 ∧ cmdReserved r.bits = 0 := by decide

theorem cmdReserved_of_covers {r : TableRow} (row : r ∈ cmdTable) {w : Word} (covers : r.covers w = true) :
    cmdReserved w = 0 := by
  obtain ⟨all, none⟩ := cmdTable_tests_reserved r row
  have bits : cmdReserved (w &&& r.mask) = cmdReserved r.bits := congrArg cmdReserved (eq_of_beq covers)
  rwa [cmdReserved, BitVec.extractLsb'_and, ← cmdReserved, ← cmdReserved, all, BitVec.and_allOnes, none] at bits

/-- The mnemonics of the rows that match a word. -/
def matchingRows (w : Word) : List String := (cmdTable.filter fun r => r.covers w).map TableRow.mnemonic

theorem matchingRows_table : ∀ k : Fin 64, matchingRows (BitVec.ofNat 32 k) =
    ((decodeCmd (BitVec.ofNat 32 k)).toOption.map Instr.mnemonic).toList := by decide

theorem matchingRows_eq (w : Word) : matchingRows w = ((decodeCmd w).toOption.map Instr.mnemonic).toList := by
  by_cases clear : cmdReserved w = 0
  case pos =>
    exact of_cmdReserved_eq_zero (P := fun w => matchingRows w = ((decodeCmd w).toOption.map Instr.mnemonic).toList)
      matchingRows_table clear
  case neg =>
    have noRow : (cmdTable.filter fun r => r.covers w) = [] :=
      List.filter_eq_nil_iff.mpr fun r row covers => clear (cmdReserved_of_covers row covers)
    rw [matchingRows, noRow, decodeCmd_reserved clear]; rfl

/-- Settles O1: BUS words by their fields, FFT by its two arguments, and each other command is one word. -/
theorem decodeEncodeRoundTrip : Obligations.DecodeEncodeRoundTrip := by
  intro i wellFormed
  cases i
  case rd a => exact (decode_bus_toNat _).trans (congrArg _ (decodeBus_read a 0))
  case wr a d => exact (decode_bus_toNat _).trans (congrArg _ (decodeBus_write (bne_iff_ne.mp wellFormed) d))
  case cmdIssue w => exact (decode_bus_toNat _).trans (congrArg _ (decodeBus_issue w))
  case fft inv scale => exact (decode_cmd_toNat _).trans (decodeCmd_cmdWord_fft inv scale)
  all_goals decide

/-- Settles O2: an accepted command word is one of the 64, and a BUS word is the word of its fields. -/
theorem encodeDecodeRoundTrip : Obligations.EncodeDecodeRoundTrip := by
  constructor
  case left =>
    intro w i decodes
    have clear := cmdReserved_of_legal (cmdLegal_of_decodeCmd decodes)
    have row := of_cmdReserved_eq_zero (P := fun w => ∀ i ∈ (decodeCmd w).toOption, i.format = .cmd ∧ encode i = w.toNat)
      encode_decodeCmd_table clear
    exact row i (by rw [decodes]; rfl)
  case right =>
    intro we a d
    cases we
    case false => rw [decodeBus_read]; exact ⟨rfl, rfl⟩
    case true =>
      by_cases command : a = 0x003#9
      case pos => rw [command, decodeBus_issue]; exact ⟨rfl, rfl⟩
      case neg => rw [decodeBus_write command]; exact ⟨rfl, bne_iff_ne.mpr command⟩

/-- Settles O3: a legal word is one of the 64, of which the table has the sixteen. -/
theorem legalWordsAreTheSixteen : Obligations.LegalWordsAreTheSixteen := cmdLegal_iff_mem_legalWords

/-- Settles O5: a word with reserved bits is rejected and of no row; for the others the rows are a table. -/
theorem maskTableAgreesWithDecoder : Obligations.MaskTableAgreesWithDecoder := by
  intro w
  refine (matchingRows_eq w).trans ?_
  cases decodeCmd w with
  | instr i => rfl
  | rejected why => rfl

/-- Settles O6: the decoder on nine words, each written out. -/
theorem writtenWordsDecode : Obligations.WrittenWordsDecode := by
  unfold Obligations.WrittenWordsDecode
  decide

end Sys2Proof
end

section
/-! What an instruction leaves alone (20_memory.md R65, 44_control.md R220, R227, R245): the frame of a host write, the
frame of a command, and the addresses that name an array; O19, O21, O24, O46, O47 and O54. -/

namespace Sys2Proof.Machine

/-! ## The frame of a host write -/

section
variable (v : Word) (s : State)

theorem issueCommand_frame : issueCommand v s =
    { s with pending := (issueCommand v s).pending, done := (issueCommand v s).done,
             errCmd := (issueCommand v s).errCmd } := by
  rcases issueCommand_cases v s with accepted | refused
  · rw [accepted]; rfl
  · rw [refused]; rfl

/-- R65, R70: no write reaches the modes, the sweep, MAG, the display state, rst_n or the model's own bookkeeping. -/
theorem writeTarget_frame (t : Target) : writeTarget t v s =
    { writeTarget t v s with
      toneMode := s.toneMode, disp := s.disp, idx := s.idx, tcnt := s.tcnt, mag := s.mag, cur := s.cur, peak := s.peak,
      dcnt := s.dcnt, fb := s.fb, rstN := s.rstN, inputs := s.inputs, reads := s.reads, draws := s.draws } := by
  cases t
  case cmd => rw [writeTarget, issueCommand_frame]
  all_goals rfl

theorem memWrite_frame (a : Addr) : memWrite a v s =
    { memWrite a v s with
      toneMode := s.toneMode, disp := s.disp, idx := s.idx, tcnt := s.tcnt, mag := s.mag, cur := s.cur, peak := s.peak,
      dcnt := s.dcnt, fb := s.fb, rstN := s.rstN, inputs := s.inputs, reads := s.reads, draws := s.draws } := by
  rcases memWrite_cases a v s with same | busy | stored
  · rw [same]
  · rw [busy]; rfl
  · rw [stored]; exact writeTarget_frame v s (target a)

end

/-! ## The frame of a command -/

section
variable (s : State)

/-- R245, R227 and the column "writes" of R93: what no command changes. -/
theorem body_frame (i : Instr) : body i s =
    { body i s with
      ctrl := s.ctrl, done := s.done, errCmd := s.errCmd, errBusy := s.errBusy, droop := s.droop, lmaxSpec := s.lmaxSpec,
      lmaxTone := s.lmaxTone, toneShift := s.toneShift, toneSub := s.toneSub, fmax := s.fmax, stepFrames := s.stepFrames,
      toneK := s.toneK, thr := s.thr, band := s.band, pending := s.pending, rstN := s.rstN, inputs := s.inputs,
      reads := s.reads, draws := s.draws } := by
  cases i
  case tick => rw [body, tick_frame]
  case frame =>
    rw [body, ← frameBody_ctrl s, ← frameBody_done s, ← frameBody_errCmd s, ← frameBody_errBusy s, ← frameBody_droop s,
      ← frameBody_lmaxSpec s, ← frameBody_lmaxTone s, ← frameBody_toneShift s, ← frameBody_toneSub s, ← frameBody_fmax s,
      ← frameBody_stepFrames s, ← frameBody_toneK s, ← frameBody_thr s, ← frameBody_band s, ← frameBody_pending s,
      ← frameBody_rstN s, ← frameBody_inputs s, ← frameBody_reads s, ← frameBody_draws s]
  all_goals rfl

end

/-! ## What an instruction does, with the write it is -/

/-- The host's write of `v` to `a`; CMD_ISSUE is the write of CMD (R91). -/
def HostWrites (i : Instr) (a : Addr) (v : Word) : Prop := i = .wr a v ∨ (i = .cmdIssue v ∧ a = 0x003#9)

theorem exec_next_inversion {i : Instr} {s t : State} (answers : exec i s = .next t) :
    (∃ r n, t = { s with reads := r, draws := n }) ∨ (∃ a v, HostWrites i a v ∧ t = memWrite a v s) ∨
    (i.format = .cmd ∧ t = complete (body i s)) := by
  cases i
  case rd a => exact .inl ⟨_, _, (Host.Outcome.next.inj answers).symm⟩
  case wr a v => exact .inr (.inl ⟨a, v, .inl rfl, (Host.Outcome.next.inj answers).symm⟩)
  case cmdIssue w => exact .inr (.inl ⟨0x003#9, w, .inr ⟨rfl, rfl⟩, (Host.Outcome.next.inj answers).symm⟩)
  all_goals exact .inr (.inr ⟨rfl, (Host.Outcome.next.inj answers).symm⟩)

theorem HostWrites.eq_wr {i : Instr} {a : Addr} {v : Word} (writes : HostWrites i a v) (other : a.toNat ≠ 0x003) :
    i = .wr a v :=
  writes.resolve_right fun ⟨_, command⟩ => other (congrArg BitVec.toNat command)

/-- A part of the state in which a read shows nothing is changed only by the write or the command that the instruction
is. -/
theorem exec_changes {α : Type} (part : State → α) {i : Instr} {s t : State} (answers : exec i s = .next t)
    (read : ∀ r n, part { s with reads := r, draws := n } = part s) (changed : part t ≠ part s) :
    (∃ a v, HostWrites i a v ∧ part (memWrite a v s) ≠ part s) ∨ part (complete (body i s)) ≠ part s := by
  rcases exec_next_inversion answers with ⟨r, n, rfl⟩ | ⟨a, v, writes, rfl⟩ | ⟨-, rfl⟩
  · exact absurd (read r n) changed
  · exact .inl ⟨a, v, writes, changed⟩
  · exact .inr changed

/-! ## The address that names a target (R61, R62) -/

/-- The word address of an element or a register; the reserved addresses are many and named by none.
`address_target` ties it to the map. -/
def Target.address : Target → Nat
  | .id => 0x000 | .ctrl => 0x001 | .status => 0x002 | .cmd => 0x003 | .droop => 0x004 | .qcfg => 0x005 | .toneCfg => 0x006
  | .toneK => 0x007 | .mode => 0x008 | .toneState => 0x009 | .toneHp => 0x00A
  | .re i => 0x040 + i | .im i => 0x080 + i | .mag k => 0x0C0 + k | .level k => 0x0E0 + k
  | .cur d => 0x100 + d | .peak d => 0x120 + d | .dcnt d => 0x140 + d | .fb r => 0x160 + r
  | .thr i => 0x170 + i | .band d => 0x180 + d | .sinq k => 0x1A0 + k
  | .reserved => 0x1FF

theorem address_target : ∀ a : Addr, target a ≠ .reserved → (target a).address = a.toNat := by decide

theorem toNat_eq_address {a : Addr} {t : Target} (names : target a = t) (named : t ≠ .reserved) : a.toNat = t.address := by
  subst names
  exact (address_target a named).symm

theorem eq_of_names {a b : Addr} {t : Target} (names : target a = t) (named : t ≠ .reserved) (place : t.address = b.toNat) :
    a = b :=
  BitVec.eq_of_toNat_eq ((toNat_eq_address names named).trans place)

/-! ## Who writes the data arrays, TONE_K and IDX -/

section
variable (v : Word) (s : State)

theorem writeTarget_data_writers (t : Target) :
    ((∃ i, t = .re i) ∨ (writeTarget t v s).re = s.re) ∧ ((∃ i, t = .im i) ∨ (writeTarget t v s).im = s.im) ∧
    ((∃ k, t = .level k) ∨ (writeTarget t v s).level = s.level) ∧ (t = .toneK ∨ (writeTarget t v s).toneK = s.toneK) := by
  cases t
  case re i => exact ⟨.inl ⟨i, rfl⟩, .inr rfl, .inr rfl, .inr rfl⟩
  case im i => exact ⟨.inr rfl, .inl ⟨i, rfl⟩, .inr rfl, .inr rfl⟩
  case level k => exact ⟨.inr rfl, .inr rfl, .inl ⟨k, rfl⟩, .inr rfl⟩
  case toneK => exact ⟨.inr rfl, .inr rfl, .inr rfl, .inl rfl⟩
  case cmd => rw [writeTarget, issueCommand_frame]; exact ⟨.inr rfl, .inr rfl, .inr rfl, .inr rfl⟩
  all_goals exact ⟨.inr rfl, .inr rfl, .inr rfl, .inr rfl⟩

theorem memWrite_data_writers (a : Addr) :
    ((0x040 ≤ a.toNat ∧ a.toNat ≤ 0x07F) ∨ (memWrite a v s).re = s.re) ∧
    ((0x080 ≤ a.toNat ∧ a.toNat ≤ 0x0BF) ∨ (memWrite a v s).im = s.im) ∧
    ((0x0E0 ≤ a.toNat ∧ a.toNat ≤ 0x0FF) ∨ (memWrite a v s).level = s.level) ∧
    (a = 0x007#9 ∨ (memWrite a v s).toneK = s.toneK) := by
  rcases memWrite_cases a v s with same | busy | stored
  · rw [same]; exact ⟨.inr rfl, .inr rfl, .inr rfl, .inr rfl⟩
  · rw [busy]; exact ⟨.inr rfl, .inr rfl, .inr rfl, .inr rfl⟩
  · rw [stored]
    obtain ⟨re, im, level, toneK⟩ := writeTarget_data_writers v s (target a)
    refine ⟨re.imp_left ?_, im.imp_left ?_, level.imp_left ?_, toneK.imp_left ?_⟩
    · rintro ⟨i, names⟩
      have place : a.toNat = 0x040 + i.val := toNat_eq_address names nofun
      omega
    · rintro ⟨i, names⟩
      have place : a.toNat = 0x080 + i.val := toNat_eq_address names nofun
      omega
    · rintro ⟨k, names⟩
      have place : a.toNat = 0x0E0 + k.val := toNat_eq_address names nofun
      omega
    · exact fun names => eq_of_names names nofun rfl

/-- The column "writes" of R93, for the data arrays. -/
theorem body_data_writers (i : Instr) :
    ((i ∈ [.bitrev, .frame] ∨ ∃ inv scale, i = .fft inv scale) ∨ (body i s).re = s.re) ∧
    ((i ∈ [.bitrev, .frame, .clrim] ∨ ∃ inv scale, i = .fft inv scale) ∨ (body i s).im = s.im) ∧
    (i ∈ [.mag, .frame] ∨ (body i s).mag = s.mag ∧ (body i s).level = s.level) := by
  cases i
  case bitrev => exact ⟨.inl (.inl (by decide)), .inl (.inl (by decide)), .inr ⟨rfl, rfl⟩⟩
  case frame => exact ⟨.inl (.inl (by decide)), .inl (.inl (by decide)), .inl (by decide)⟩
  case fft inv scale => exact ⟨.inl (.inr ⟨_, _, rfl⟩), .inl (.inr ⟨_, _, rfl⟩), .inr ⟨rfl, rfl⟩⟩
  case clrim => exact ⟨.inr rfl, .inl (.inl (by decide)), .inr ⟨rfl, rfl⟩⟩
  case mag => exact ⟨.inr rfl, .inr rfl, .inl (by decide)⟩
  case tick => exact ⟨.inr (tick_re s), .inr (tick_im s), .inr ⟨tick_mag s, tick_level s⟩⟩
  all_goals exact ⟨.inr rfl, .inr rfl, .inr ⟨rfl, rfl⟩⟩

/-- The column "writes" of R93, for the display state. -/
theorem body_display_writers (i : Instr) :
    (i ∈ [.render, .scope, .frame, .clrdisp, .btnMode, .btnDisp] ∨ (body i s).fb = s.fb) ∧
    (i ∈ [.update, .frame, .clrdisp, .btnMode, .btnDisp] ∨
      (body i s).cur = s.cur ∧ (body i s).peak = s.peak ∧ (body i s).dcnt = s.dcnt) := by
  cases i
  case render | scope => exact ⟨.inl (by decide), .inr ⟨rfl, rfl, rfl⟩⟩
  case update => exact ⟨.inr rfl, .inl (by decide)⟩
  case frame | clrdisp | btnMode | btnDisp => exact ⟨.inl (by decide), .inl (by decide)⟩
  case tick => exact ⟨.inr (tick_fb s), .inr ⟨tick_cur s, tick_peak s, tick_dcnt s⟩⟩
  all_goals exact ⟨.inr rfl, .inr ⟨rfl, rfl, rfl⟩⟩

theorem body_idx_writers (i : Instr) : i ∈ [.tick, .frame, .btnMode] ∨ (body i s).idx = s.idx := by
  cases i
  case tick | frame | btnMode => exact .inl (by decide)
  all_goals exact .inr rfl

end

/-! ## What a write does to the error bits (R241, R242, R245, R246) -/

theorem writeTarget_errors (v : Word) (s : State) {t : Target} (notStatus : t ≠ .status) (notCmd : t ≠ .cmd) :
    (writeTarget t v s).errCmd = s.errCmd ∧ (writeTarget t v s).errBusy = s.errBusy := by
  cases t
  case status => exact absurd rfl notStatus
  case cmd => exact absurd rfl notCmd
  all_goals exact ⟨rfl, rfl⟩

theorem memWrite_errors (a : Addr) (v : Word) (s : State) :
    ((memWrite a v s).errCmd = s.errCmd ∧ (memWrite a v s).errBusy = s.errBusy) ∨
    (a = 0x002#9 ∧ memWrite a v s = clearStatus v s) ∨
    (s.busy = true ∧ a ≠ 0x002#9 ∧ memWrite a v s = raise .busy s) ∨
    (s.busy = false ∧ a = 0x003#9 ∧ cmdLegal v = false ∧ memWrite a v s = raise .cmd s) := by
  cases out : s.rstN with
  | false => rw [memWrite_low out]; exact .inl ⟨rfl, rfl⟩
  | true =>
    by_cases status : a = 0x002#9
    case pos => rw [status]; exact .inr (.inl ⟨rfl, memWrite_status out v⟩)
    case neg =>
      cases busy : s.busy with
      | true => exact .inr (.inr (.inl ⟨rfl, status, memWrite_busy out busy status v⟩))
      | false =>
        by_cases command : a = 0x003#9
        case pos =>
          rw [command, memWrite_cmd_idle out busy]
          cases legal : cmdLegal v with
          | true => rw [issueCommand_legal legal]; exact .inl ⟨rfl, rfl⟩
          | false => exact .inr (.inr (.inr ⟨rfl, rfl, rfl, issueCommand_illegal legal s⟩))
        case neg =>
          rw [memWrite_idle out busy]
          exact .inl (writeTarget_errors v s (fun names => status (eq_of_names names nofun rfl))
            fun names => command (eq_of_names names nofun rfl))

/-- An instruction that answers keeps the error bits, or is the write of STATUS that clears, or raises one of the errors. -/
theorem exec_errors {i : Instr} {s t : State} (answers : exec i s = .next t) :
    (t.errCmd = s.errCmd ∧ t.errBusy = s.errBusy) ∨ (∃ v, i = .wr 0x002#9 v ∧ t = clearStatus v s) ∨
    (s.busy = true ∧ ((∃ a v, i = .wr a v ∧ a ≠ 0x002#9) ∨ ∃ w, i = .cmdIssue w) ∧ t = raise .busy s) ∨
    (s.busy = false ∧ (∃ w, (i = .cmdIssue w ∨ i = .wr 0x003#9 w) ∧ cmdLegal w = false) ∧ t = raise .cmd s) := by
  rcases exec_next_inversion answers with ⟨r, n, rfl⟩ | ⟨a, v, writes, rfl⟩ | ⟨-, rfl⟩
  case inl => exact .inl ⟨rfl, rfl⟩
  case inr.inr => rw [body_frame]; exact .inl ⟨rfl, rfl⟩
  case inr.inl =>
    rcases memWrite_errors a v s with kept | ⟨rfl, cleared⟩ | ⟨busy, notStatus, refused⟩ | ⟨idle, rfl, illegal, rejected⟩
    · exact .inl kept
    · exact .inr (.inl ⟨v, writes.eq_wr (by decide), cleared⟩)
    · refine .inr (.inr (.inl ⟨busy, ?_, refused⟩))
      exact writes.imp (fun wr => ⟨a, v, wr, notStatus⟩) fun ⟨issue, _⟩ => ⟨v, issue⟩
    · exact .inr (.inr (.inr ⟨idle, ⟨v, writes.symm.imp_left And.left, illegal⟩, rejected⟩))

/-- R72 and R270: while a command is in flight a write is without effect, of STATUS, or a BusyError. -/
theorem memWrite_while_busy {s : State} (busy : s.busy = true) (a : Addr) (v : Word) :
    memWrite a v s = s ∨ memWrite a v s = clearStatus v s ∨ memWrite a v s = raise .busy s := by
  cases out : s.rstN with
  | false => exact .inl (memWrite_low out a v)
  | true =>
    by_cases status : a = 0x002#9
    · rw [status]; exact .inr (.inl (memWrite_status out v))
    · exact .inr (.inr (memWrite_busy out busy status v))

end Sys2Proof.Machine

namespace Sys2Proof

open Sys2Proof.Machine

/-- Settles O19: a read leaves the record and the count of draws, a write at most STATUS bits. -/
theorem hostCannotDisturbCommandInFlight : Obligations.HostCannotDisturbCommandInFlight := by
  intro s t i busy host answers
  rcases exec_next_cases answers with ⟨-, read⟩ | ⟨-, a, v, rfl⟩ | ⟨command, -⟩
  case inl => rw [read]
  case inr.inl =>
    rcases memWrite_while_busy busy a v with same | cleared | refused
    · rw [same]
    · rw [cleared]; rfl
    · rw [refused]; rfl
  case inr.inr => rw [host] at command; cases command

/-- Settles O21: the frame of a command's body, and its completion. -/
theorem everyCommandCompletes : Obligations.EveryCommandCompletes := by
  intro i s command
  refine ⟨_, exec_command command s, rfl, rfl, rfl, ?_⟩
  rw [body_frame]
  exact ⟨rfl, rfl, rfl, rfl, rfl, rfl, rfl, rfl, rfl, rfl, rfl, rfl, rfl, rfl⟩

/-- Settles O46: no read and no write shows in the display state, and the commands are those of the table. -/
theorem displayStateWriters : Obligations.DisplayStateWriters := by
  intro i s t answers
  obtain ⟨fb, columns⟩ := body_display_writers s i
  constructor
  case left =>
    intro changed
    rcases exec_changes State.fb answers (fun _ _ => rfl) changed with ⟨a, v, -, stored⟩ | done
    · exact absurd (congrArg State.fb (memWrite_frame v s a)) stored
    · exact fb.resolve_right done
  case right =>
    intro changed
    have changed : (t.cur, t.peak, t.dcnt) ≠ (s.cur, s.peak, s.dcnt) := by
      simpa only [ne_eq, Prod.mk.injEq, not_and_or] using changed
    rcases exec_changes (fun u => (u.cur, u.peak, u.dcnt)) answers (fun _ _ => rfl) changed with ⟨a, v, -, stored⟩ | done
    · exact absurd (congrArg (fun u => (u.cur, u.peak, u.dcnt)) (memWrite_frame v s a)) stored
    · exact columns.resolve_right fun ⟨cur, peak, dcnt⟩ => done (Prod.ext cur (Prod.ext peak dcnt))

/-- Settles O47: the writes by the range of their address, the commands by the table. -/
theorem dataArrayWriters : Obligations.DataArrayWriters := by
  intro i s t answers
  obtain ⟨re, im, magLevel⟩ := body_data_writers s i
  refine ⟨fun changed => ?re, fun changed => ?im, fun changed => ?mag, fun changed => ?level⟩
  case re =>
    rcases exec_changes State.re answers (fun _ _ => rfl) changed with ⟨a, v, writes, stored⟩ | done
    · obtain ⟨range, -, -, -⟩ := memWrite_data_writers v s a
      have range := range.resolve_right stored
      exact .inr (.inr ⟨a, v, writes.eq_wr (by omega), range⟩)
    · exact (re.resolve_right done).imp_right .inl
  case im =>
    rcases exec_changes State.im answers (fun _ _ => rfl) changed with ⟨a, v, writes, stored⟩ | done
    · obtain ⟨-, range, -, -⟩ := memWrite_data_writers v s a
      have range := range.resolve_right stored
      exact .inr (.inr ⟨a, v, writes.eq_wr (by omega), range⟩)
    · exact (im.resolve_right done).imp_right .inl
  case mag =>
    rcases exec_changes State.mag answers (fun _ _ => rfl) changed with ⟨a, v, -, stored⟩ | done
    · exact absurd (congrArg State.mag (memWrite_frame v s a)) stored
    · exact magLevel.resolve_right fun ⟨mag, _⟩ => done mag
  case level =>
    rcases exec_changes State.level answers (fun _ _ => rfl) changed with ⟨a, v, writes, stored⟩ | done
    · obtain ⟨-, -, range, -⟩ := memWrite_data_writers v s a
      have range := range.resolve_right stored
      exact .inr ⟨a, v, writes.eq_wr (by omega), range⟩
    · exact .inl (magLevel.resolve_right fun ⟨_, level⟩ => done level)

/-- Settles O54: TONE_HP is the quotient of TONE_K, which a write of it alone changes, and IDX. -/
theorem toneHalfPeriodWriters : Obligations.ToneHalfPeriodWriters := by
  intro i s t answers changed
  have changed : (t.toneK, t.idx) ≠ (s.toneK, s.idx) := fun same =>
    changed (congrArg (fun p : BitVec 16 × Byte => p.1 / p.2.setWidth 16) same)
  rcases exec_changes (fun u => (u.toneK, u.idx)) answers (fun _ _ => rfl) changed with ⟨a, v, writes, stored⟩ | done
  · obtain ⟨-, -, -, toneK⟩ := memWrite_data_writers v s a
    have keepsIdx : (memWrite a v s).idx = s.idx := by rw [memWrite_frame]
    have address := toneK.resolve_right fun keepsToneK => stored (Prod.ext keepsToneK keepsIdx)
    subst address
    exact .inr ⟨v, writes.eq_wr (by decide)⟩
  · have keepsToneK : (body i s).toneK = s.toneK := by rw [body_frame]
    exact .inl ((body_idx_writers s i).resolve_right fun keepsIdx => done (Prod.ext keepsToneK keepsIdx))

/-- Settles O24: the cases of what an instruction does to the error bits. -/
theorem errorBitsChangeOnlyByHostWrites : Obligations.ErrorBitsChangeOnlyByHostWrites := by
  intro i s t answers
  rcases exec_errors answers with ⟨cmd, busy⟩ | ⟨v, write, rfl⟩ | ⟨busy, write, rfl⟩ | ⟨idle, ⟨w, issue, illegal⟩, rfl⟩
  · simp +contextual [cmd, busy]
  · exact ⟨by simp +contextual, by simp +contextual, fun _ => ⟨v, write⟩⟩
  · exact ⟨by simp +contextual, fun _ _ => ⟨busy, write⟩, by simp +contextual⟩
  · exact ⟨fun _ _ => ⟨w, issue, illegal, idle⟩, by simp +contextual, by simp +contextual⟩

end Sys2Proof
end

section
/-! What the addresses read (20_memory.md R64, R65, R71): the words of the packed registers, and O14 and O17. -/

namespace Sys2Proof.Machine

open Sys2Proof.Claims

/-! ## A field as a word -/

theorem zext32_eq_ofNat {w : Nat} (x : BitVec w) : zext32 x = BitVec.ofNat 32 x.toNat := (BitVec.ofNat_toNat 32 x).symm

theorem toNat_append_eq {m n : Nat} (x : BitVec m) (y : BitVec n) : (x ++ y).toNat = 2 ^ n * x.toNat + y.toNat := by
  rw [BitVec.toNat_append, ← Nat.shiftLeft_add_eq_or_of_lt y.isLt, Nat.shiftLeft_eq, Nat.mul_comm]

theorem toNat_qcfg (s : State) : s.qcfg.toNat =
    4096 * s.toneSub.toNat + 256 * s.toneShift.toNat + 16 * s.lmaxTone.toNat + s.lmaxSpec.toNat := by
  rw [State.qcfg, toNat_append_eq, toNat_append_eq, toNat_append_eq, toNat_append_eq, BitVec.toNat_zero]
  omega

theorem toNat_mode (d : Disp) (m : ToneMode) : (BitVec.ofBool d.code ++ m.code).toNat =
    (if d = .oscilloscope then 4 else 0) + if m = .toneDirect then 1 else if m = .toneBuzzer then 2 else 0 := by
  cases d <;> cases m <;> rfl

/-- An address whose target is held as a field `x` reads as the number `x` is. -/
theorem returns_field {s : State} (out : s.rstN = true) (idle : s.busy = false) {a : Addr} {t : Target} {w n : Nat}
    {x : BitVec w} (names : target a = t) (holds : readTarget t s = zext32 x) (value : x.toNat = n) :
    Returns s a (BitVec.ofNat 32 n) := by
  rw [← value, ← zext32_eq_ofNat, ← holds]
  exact returns_mapped out (.inl idle) names

/-! ## One write and the other targets (R71) -/

theorem getElem_set_other {α : Type} {n : Nat} (x : Vector α n) {i j : Fin n} (other : j ≠ i) (y : α) :
    (x.set i y)[j] = x[j] :=
  Vector.getElem_set_ne i.isLt j.isLt fun same => other (Fin.ext same.symm)

theorem readTarget_writeTarget_other {t u : Target} (other : u ≠ t) (notCmd : t ≠ .cmd)
    (quotient : t = .toneK → u ≠ .toneHp) (v : Word) (s : State) : readTarget u (writeTarget t v s) = readTarget u s := by
  cases t
  case cmd => exact absurd rfl notCmd
  case ctrl => cases u with | ctrl => exact absurd rfl other | _ => rfl
  case status => cases u with | status => exact absurd rfl other | _ => rfl
  case droop => cases u with | droop => exact absurd rfl other | _ => rfl
  case qcfg => cases u with | qcfg => exact absurd rfl other | _ => rfl
  case toneCfg => cases u with | toneCfg => exact absurd rfl other | _ => rfl
  case toneK => cases u with | toneK => exact absurd rfl other | toneHp => exact absurd rfl (quotient rfl) | _ => rfl
  case re i =>
    cases u with
    | re j => exact congrArg sext32 (getElem_set_other s.re (ne_of_apply_ne _ other) _)
    | _ => rfl
  case im i =>
    cases u with
    | im j => exact congrArg sext32 (getElem_set_other s.im (ne_of_apply_ne _ other) _)
    | _ => rfl
  case level i =>
    cases u with
    | level j => exact congrArg zext32 (getElem_set_other s.level (ne_of_apply_ne _ other) _)
    | _ => rfl
  case thr i =>
    cases u with
    | thr j => exact congrArg zext32 (getElem_set_other s.thr (ne_of_apply_ne _ other) _)
    | _ => rfl
  case band i =>
    cases u with
    | band j => exact congrArg zext32 (getElem_set_other s.band (ne_of_apply_ne _ other) _)
    | _ => rfl
  all_goals rw [writeTarget_eq_self rfl]

theorem readTarget_other_address {a b : Addr} (other : b ≠ a) (notCmd : a ≠ 0x003#9) (quotient : a = 0x007#9 → b ≠ 0x00A#9)
    (v : Word) (s : State) : readTarget (target b) (writeTarget (target a) v s) = readTarget (target b) s := by
  by_cases reserved : target a = .reserved
  case pos => rw [reserved]; rfl
  case neg =>
    exact readTarget_writeTarget_other (fun same => other (eq_of_names same reserved (address_target a reserved)))
      (fun names => notCmd (eq_of_names names nofun rfl))
      (fun names hp => quotient (eq_of_names names nofun rfl) (eq_of_names hp nofun rfl)) v s

theorem busy_writeTarget {t : Target} (notCmd : t ≠ .cmd) (v : Word) (s : State) : (writeTarget t v s).busy = s.busy := by
  cases t
  case cmd => exact absurd rfl notCmd
  all_goals rfl

end Sys2Proof.Machine

namespace Sys2Proof

open Sys2Proof.Machine Sys2Proof.Claims

/-- Settles O14: each address by what the map says it names, and each packed register as the sum of its fields. -/
theorem readReturnsMappedWord : Obligations.ReadReturnsMappedWord := by
  intro s out
  refine ⟨?id, ?status, fun busy a notId notStatus => ?draw, fun idle => ?mapped⟩
  case id => exact returns_mapped out (.inr (.inl rfl)) (t := .id) rfl
  case status => exact readTarget_status s ▸ returns_mapped out (.inr (.inr rfl)) (t := .status) rfl
  case draw =>
    obtain ⟨word, one⟩ := memRead_draw out busy notId notStatus
    rw [exec_rd, word, one]
  case mapped =>
    refine ⟨?ctrl, ?cmd, ?droop, ?qcfg, ?toneCfg, ?toneK, ?mode, ?toneState, fun _ => ?toneHp, fun i => ⟨?re, ?im⟩,
      fun k => ⟨?mag, ?level, ?cur, ?peak, ?dcnt, ?band⟩, fun r => ?fb, fun i => ?thr, fun k => ?sinq,
      fun a reserved => ?reserved⟩
    case ctrl => exact returns_field out idle (t := .ctrl) rfl rfl rfl
    case cmd => exact returns_mapped out (.inl idle) (t := .cmd) rfl
    case droop => exact returns_field out idle (t := .droop) rfl rfl rfl
    case qcfg => exact returns_field out idle (t := .qcfg) rfl rfl (toNat_qcfg s)
    case toneCfg => exact returns_field out idle (t := .toneCfg) rfl rfl (toNat_append_eq _ _)
    case toneK => exact returns_field out idle (t := .toneK) rfl rfl rfl
    case mode => exact returns_field out idle (t := .mode) rfl rfl (toNat_mode _ _)
    case toneState => exact returns_field out idle (t := .toneState) rfl rfl (toNat_append_eq _ _)
    case toneHp => exact returns_field out idle (t := .toneHp) rfl rfl s.toNat_toneHp
    case re => exact returns_mapped out (.inl idle) (target_re i)
    case im => exact returns_mapped out (.inl idle) (target_im i)
    case mag => exact returns_field out idle (target_mag k) rfl rfl
    case level => exact returns_field out idle (target_level k) rfl rfl
    case cur => exact returns_field out idle (target_cur k) rfl rfl
    case peak => exact returns_field out idle (target_peak k) rfl rfl
    case dcnt => exact returns_field out idle (target_dcnt k) rfl rfl
    case band => exact returns_field out idle (target_band k) rfl rfl
    case fb => exact returns_mapped out (.inl idle) (target_fb r)
    case thr => exact returns_field out idle (target_thr i) rfl rfl
    case sinq => exact returns_mapped out (.inl idle) (target_sinq k)
    case reserved => exact returns_mapped out (.inl idle) (target_of_isReserved reserved)

/-- Settles O17: other addresses name other targets, and each target is read from fields of its own. -/
theorem writeLeavesOtherAddressesAlone : Obligations.WriteLeavesOtherAddressesAlone := by
  rintro s a v ⟨out, idle⟩ notCmd
  have out' : (writeTarget (target a) v s).rstN = true := by rw [writeTarget_frame]; exact out
  have idle' : (writeTarget (target a) v s).busy = false :=
    (busy_writeTarget (fun names => notCmd (eq_of_names names nofun rfl)) v s).trans idle
  refine ⟨_, writes_mapped out idle rfl rfl, ⟨out', idle'⟩, fun b other quotient => ?_⟩
  rw [(memRead_mapped out' (.inl idle')).left, (memRead_mapped out (.inl idle)).left]
  exact readTarget_other_address other notCmd quotient v s

end Sys2Proof
end

section
/-! Steps and the invariant (44_control.md R220, 60_exceptions.md R240): what a step does by its event, that every event
keeps the invariant, and that a step always answers; O7 to O11. -/

namespace Sys2Proof.Machine

/-! ## One step, event by event -/

section
variable (s : State) (rest : List Input)

theorem step_bus (b : BusWord) : step { s with inputs := .bus b :: rest } =
    exec (decodeBus b) { s with inputs := rest } := rfl

theorem step_resetPin (high : Bool) :
    step { s with inputs := .resetPin high :: rest } = .next (setResetPin high { s with inputs := rest }) := rfl

variable {s}

theorem step_engine {w : Word} {i : Instr} (pending : s.pending = some w) (decodes : decodeCmd w = .instr i) :
    step { s with inputs := .engine :: rest } = exec i { s with inputs := rest } := by
  simp [step, nextEvent, engineTurn, pending, decodes]

theorem step_engine_idle (empty : s.pending = none) :
    step { s with inputs := .engine :: rest } = .next { s with inputs := rest } := by
  simp [step, nextEvent, engineTurn, empty]

theorem step_silent {w : Word} {i : Instr} (pending : s.pending = some w) (decodes : decodeCmd w = .instr i) :
    step { s with inputs := [] } = exec i { s with inputs := [] } := by
  simp [step, nextEvent, engineTurn, pending, decodes]

theorem step_silent_idle (empty : s.pending = none) : step { s with inputs := [] } = .next { s with inputs := [] } := by
  simp [step, nextEvent, engineTurn, empty]

end

/-! ## Columns and the sweep stay in range -/

/-- The clauses of the invariant on one column: "DCNT stays in 0..254" (R162) and PEAK >= CUR (R163). -/
def Column.Sound (c : Column) : Prop := c.dcnt.toNat ≤ 254 ∧ c.cur ≤ c.peak

/-- The clauses of the invariant on the sweep: IDX is never 0 (R37) and TCNT stays in 0..254 (R196). -/
def State.SweepSound (s : State) : Prop := s.idx ≠ 0 ∧ s.tcnt.toNat ≤ 254

theorem zeroColumn_sound : Column.Sound { cur := 0, peak := 0, dcnt := 0 } := ⟨by decide, by decide⟩

/-- UPDATE makes a column sound, whatever it was: the count restarts or stays below Deff, and the new level is at most the
old peak, or becomes the peak. -/
theorem updatedColumn_sound (s : State) (d : Fin 32) : (updatedColumn s d).Sound := by
  by_cases attack : (s.column d).peak < s.bandLevel d
  case pos => rw [updatedColumn, updateColumn_attack attack]; exact ⟨Nat.zero_le 254, BitVec.le_refl _⟩
  case neg =>
    have held := BitVec.not_lt.mp attack
    rcases Nat.lt_or_ge ((s.column d).dcnt.toNat + 1) (effectiveDroop s) with early | due
    case inl =>
      rw [updatedColumn, updateColumn_count held early]
      have count := toNat_add_one_of_lt_effectiveDroop early
      have byte := effectiveDroop_lt s
      exact ⟨by simp only; omega, held⟩
    case inr =>
      rw [updatedColumn, updateColumn_decay held due]
      have lowered := toNat_decayedPeak (s.bandLevel d) (s.column d).peak
      have held := BitVec.le_def.mp held
      refine ⟨Nat.zero_le 254, BitVec.le_def.mpr ?_⟩
      simp only [lowered]
      split <;> omega

theorem column_resetDisplay (s : State) (d : Fin 32) : (resetDisplay s).column d = { cur := 0, peak := 0, dcnt := 0 } := by
  simp [State.column, resetDisplay]

theorem column_tick (s : State) (d : Fin 32) : (tick s).column d = s.column d := by rw [tick_frame]; rfl

theorem body_column (i : Instr) (s : State) (d : Fin 32) : (body i s).column d = s.column d ∨
    (body i s).column d = { cur := 0, peak := 0, dcnt := 0 } ∨ ∃ u, (body i s).column d = updatedColumn u d := by
  cases i
  case update => exact .inr (.inr ⟨s, column_update s d⟩)
  case clrdisp | btnMode | btnDisp => exact .inr (.inl (column_resetDisplay _ d))
  case tick => exact .inl (column_tick s d)
  case frame =>
    rw [body, frameBody, column_tick]
    cases disp : s.disp with
    | spectrum => rw [framePath_of_spectrum disp]; exact .inr (.inr ⟨_, column_update _ d⟩)
    | oscilloscope => rw [framePath_of_oscilloscope disp]; exact .inl rfl
  all_goals exact .inl rfl

theorem tick_sweepSound {s : State} (sound : s.SweepSound) : (tick s).SweepSound := by
  by_cases off : s.toneMode = .off
  case pos => rwa [tick_of_off off]
  case neg =>
    rcases Nat.lt_or_ge (s.tcnt.toNat + 1) (framesPerStep s) with early | due
    case inl =>
      have frames : framesPerStep s < 256 := Nat.max_lt.mpr ⟨s.stepFrames.isLt, by decide⟩
      have count := toNat_countedFrames early
      rw [tick_count off early]
      exact ⟨sound.left, by simp only; omega⟩
    case inr =>
      have index : 1 ≤ (tick s).idx.toNat := by
        rw [tick_step off due, toNat_steppedIndex]
        split <;> omega
      refine ⟨fun zero => ?_, ?_⟩
      · rw [zero] at index; exact absurd index (by decide)
      · rw [tick_step off due]; exact Nat.zero_le 254

theorem body_sweepSound (i : Instr) {s : State} (sound : s.SweepSound) : (body i s).SweepSound := by
  cases i
  case tick => exact tick_sweepSound sound
  case frame => exact tick_sweepSound (by rwa [State.SweepSound, framePath_idx, framePath_tcnt])
  case btnMode => exact ⟨by simp [body, btnModeWith], by simp [body, btnModeWith]⟩
  all_goals exact sound

theorem resetFrom_sweepSound {n : Nat} : (State.resetFrom n).SweepSound :=
  ⟨show resetIdx ≠ 0 by decide, Nat.zero_le 254⟩

/-! ## The invariant from its parts -/

/-- The fields the invariant speaks of. -/
def State.watched (s : State) :=
  (s.idx, s.tcnt, s.cur, s.peak, s.dcnt, s.pending, s.done, s.rstN, s.toneMode)

theorem State.Inv.of_watched {s t : State} (inv : s.Inv) (same : t.watched = s.watched) : t.Inv := by
  simp only [State.watched, Prod.mk.injEq] at same
  obtain ⟨idx, tcnt, cur, peak, dcnt, pending, done, rstN, toneMode⟩ := same
  exact {
    idx_pos := idx ▸ inv.idx_pos
    tcnt_le := tcnt ▸ inv.tcnt_le
    dcnt_le := dcnt ▸ inv.dcnt_le
    cur_le_peak := cur ▸ peak ▸ inv.cur_le_peak
    pending_legal := pending ▸ inv.pending_legal
    done_idle := by rw [State.busy, pending, done]; exact inv.done_idle
    reset_idle := by rw [State.busy, pending, rstN]; exact inv.reset_idle
    buzzer_built := toneMode ▸ inv.buzzer_built }

/-- With PENDING empty the clauses on BUSY hold by themselves; HAS_BUZZER is 1 (R9). -/
theorem inv_of_pending_eq_none {s : State} (empty : s.pending = none) (sweep : s.SweepSound)
    (columns : ∀ d, (s.column d).Sound) : s.Inv where
  idx_pos := sweep.left
  tcnt_le := sweep.right
  dcnt_le d := (columns d).left
  cur_le_peak d := (columns d).right
  pending_legal w holds := by rw [empty] at holds; cases holds
  done_idle _ := by rw [State.busy, empty]; rfl
  reset_idle _ := by rw [State.busy, empty]; rfl
  buzzer_built absent := absurd absent (by decide)

/-! ## Every event keeps the invariant -/

section
variable {s : State} (inv : s.Inv)
include inv

theorem inv_complete_body (i : Instr) : (complete (body i s)).Inv := by
  refine inv_of_pending_eq_none rfl (body_sweepSound i ⟨inv.idx_pos, inv.tcnt_le⟩) fun d => ?_
  change ((body i s).column d).Sound
  rcases body_column i s d with same | zero | ⟨u, updated⟩
  · rw [same]; exact ⟨inv.dcnt_le d, inv.cur_le_peak d⟩
  · rw [zero]; exact zeroColumn_sound
  · rw [updated]; exact updatedColumn_sound u d

theorem inv_issueCommand (out : s.rstN = true) (w : Word) : (issueCommand w s).Inv := by
  cases legal : cmdLegal w with
  | false => rw [issueCommand_illegal legal]; exact inv.of_watched rfl
  | true =>
    rw [issueCommand_legal legal]
    exact { inv with
      pending_legal := fun _ holds => Option.some.inj holds ▸ legal
      done_idle := nofun
      reset_idle := fun low => absurd (out.symm.trans low) (by decide) }

theorem inv_memWrite (a : Addr) (v : Word) : (memWrite a v s).Inv := by
  cases out : s.rstN with
  | false => rwa [memWrite_low out]
  | true =>
    rcases memWrite_cases a v s with same | busy | stored
    · rwa [same]
    · rw [busy]; exact inv.of_watched rfl
    · rw [stored]
      cases target a
      case cmd => exact inv_issueCommand inv out v
      case status => exact { inv with done_idle := fun set => inv.done_idle (Bool.and_eq_true_iff.mp set).left }
      all_goals exact inv.of_watched rfl

theorem inv_exec {i : Instr} {t : State} (answers : exec i s = .next t) : t.Inv := by
  rcases exec_next_inversion answers with ⟨r, n, rfl⟩ | ⟨a, v, -, rfl⟩ | ⟨-, rfl⟩
  · exact inv.of_watched rfl
  · exact inv_memWrite inv a v
  · exact inv_complete_body inv i

theorem inv_setResetPin (high : Bool) : (setResetPin high s).Inv := by
  cases high with
  | true => exact { inv with reset_idle := nofun }
  | false =>
    exact inv_of_pending_eq_none rfl (resetFrom_sweepSound (n := s.draws)) fun d =>
      resetFrom_column s.draws d ▸ zeroColumn_sound

end

/-! ## A step always answers -/

theorem exec_answers (i : Instr) (s : State) : ∃ t, exec i s = .next t := by
  cases i <;> exact ⟨_, rfl⟩

theorem exec_inputs {i : Instr} {s t : State} (answers : exec i s = .next t) : t.inputs = s.inputs := by
  rcases exec_next_inversion answers with ⟨r, n, rfl⟩ | ⟨a, v, -, rfl⟩ | ⟨-, rfl⟩
  · rfl
  · rw [memWrite_frame]
  · rw [body_frame]; rfl

theorem setResetPin_inputs (high : Bool) (s : State) : (setResetPin high s).inputs = s.inputs := by
  cases high with
  | true => rfl
  | false => rfl

/-- A turn of the engine does not stop while PENDING is empty or legal. -/
theorem step_of_engineTurn {s u : State} (legal : ∀ w, u.pending = some w → cmdLegal w = true)
    (event : nextEvent s = engineTurn u) : (∃ i, step s = exec i u) ∨ step s = .next u := by
  rcases engineTurn_cases legal with ⟨-, turn⟩ | ⟨w, i, -, -, -, turn⟩
  · exact .inr (by rw [step, event, turn])
  · exact .inl ⟨i, by rw [step, event, turn]⟩

/-- A step takes the oldest entry off the script, if there is one, and then runs an instruction, does nothing, or moves
rst_n. -/
theorem step_cases {s : State} (legal : ∀ w, s.pending = some w → cmdLegal w = true) (script : List Input) :
    (∃ i, step { s with inputs := script } = exec i { s with inputs := script.tail }) ∨
    step { s with inputs := script } = .next { s with inputs := script.tail } ∨
    ∃ high, step { s with inputs := script } = .next (setResetPin high { s with inputs := script.tail }) := by
  cases script with
  | nil => exact (step_of_engineTurn (u := { s with inputs := [] }) legal rfl).imp_right .inl
  | cons entry rest =>
    cases entry with
    | bus b => exact .inl ⟨decodeBus b, rfl⟩
    | engine => exact (step_of_engineTurn (u := { s with inputs := rest }) legal rfl).imp_right .inl
    | resetPin high => exact .inr (.inr ⟨high, rfl⟩)

/-- From a state of the invariant a step answers a state of the invariant, with one entry of the script less. -/
theorem step_sound {s : State} (inv : s.Inv) : ∃ t, step s = .next t ∧ t.Inv ∧ t.inputs = s.inputs.tail := by
  have inv' : ({ s with inputs := s.inputs.tail } : State).Inv := inv.of_watched rfl
  rcases step_cases inv.pending_legal s.inputs with ⟨i, runs⟩ | quiet | ⟨high, moved⟩
  · obtain ⟨t, answers⟩ := exec_answers i { s with inputs := s.inputs.tail }
    exact ⟨t, runs.trans answers, inv_exec inv' answers, exec_inputs answers⟩
  · exact ⟨_, quiet, inv', rfl⟩
  · exact ⟨_, moved, inv_setResetPin inv' high, setResetPin_inputs high _⟩

/-- With the script used up a command in flight completes. -/
theorem step_silent_completes {s : State} (inv : s.Inv) (script : s.inputs = []) :
    ∃ t, step s = .next t ∧ t.inputs = [] ∧ t.busy = false := by
  have event : nextEvent s = engineTurn s := by rw [nextEvent, script]
  rcases engineTurn_cases inv.pending_legal with ⟨empty, turn⟩ | ⟨w, i, -, -, command, turn⟩
  · exact ⟨s, by rw [step, event, turn], script, by rw [State.busy, empty]; rfl⟩
  · have answers := exec_command command s
    exact ⟨_, by rw [step, event, turn]; exact answers, (exec_inputs answers).trans script, rfl⟩

theorem core_run_succ {s t : State} (first : step s = .next t) (k : Nat) : core.run (k + 1) s = core.run k t :=
  run_succ (M := core) first k

theorem core_run_sound (k : Nat) {s : State} (inv : s.Inv) : ∃ t, core.run k s = .next t := by
  induction k generalizing s with
  | zero => exact ⟨s, rfl⟩
  | succ k ih =>
    obtain ⟨t, first, inv', -⟩ := step_sound inv
    rw [core_run_succ first k]
    exact ih inv'

theorem core_run_completes (n : Nat) {s : State} (inv : s.Inv) (script : s.inputs.length = n) :
    ∃ t, core.run (n + 1) s = .next t ∧ t.inputs = [] ∧ t.busy = false := by
  induction n generalizing s with
  | zero =>
    obtain ⟨t, last, rest⟩ := step_silent_completes inv (List.length_eq_zero_iff.mp script)
    exact ⟨t, core_run_succ last 0, rest⟩
  | succ n ih =>
    obtain ⟨t, first, inv', tail⟩ := step_sound inv
    rw [core_run_succ first (n + 1)]
    exact ih inv' (by rw [tail, List.length_tail, script]; rfl)

end Sys2Proof.Machine

namespace Sys2Proof

open Sys2Proof.Machine

/-- Settles O7: each event of the script by its own rule. -/
theorem stepRunsTheDecodedInstruction : Obligations.StepRunsTheDecodedInstruction := by
  intro s rest
  exact ⟨step_bus s rest, fun w i pending decodes => ⟨step_engine rest pending decodes, step_silent pending decodes⟩,
    fun empty => ⟨step_engine_idle rest empty, step_silent_idle empty⟩, step_resetPin s rest⟩

/-- Settles O8: nothing is in flight, every column is 0, and IDX is 1. -/
theorem resetMeetsInvariant : Obligations.ResetMeetsInvariant :=
  inv_of_pending_eq_none rfl resetFrom_sweepSound fun d => resetFrom_column 0 d ▸ zeroColumn_sound

/-- Settles O9: a step answers one state, and each event that leads to it keeps the invariant. -/
theorem stepKeepsInvariant : Obligations.StepKeepsInvariant := by
  intro s t inv answers
  obtain ⟨u, next, inv', -⟩ := step_sound inv
  cases answers.symm.trans next
  exact inv'

/-- Settles O10, by induction on the number of steps. -/
theorem blockNeverStops : Obligations.BlockNeverStops := fun _ inv k => core_run_sound k inv

/-- Settles O11, by induction on the script. -/
theorem commandInFlightCompletes : Obligations.CommandInFlightCompletes := fun s inv =>
  core_run_completes s.inputs.length inv rfl

end Sys2Proof
end

section
/-! Runs of issued commands (44_control.md R220, R221, R223): a host that issues a command and the engine's turn after it
perform the command, whatever comes before and after; O25 and O57. -/

namespace Sys2Proof.Machine

open Sys2Proof.Claims

/-- The engine's performing of a command, with its completion (R220). -/
def perform (i : Instr) (s : State) : State := complete (body i s)

section
variable {s : State} {w : Word} {i : Instr}

theorem format_of_decodeCmd (decodes : decodeCmd w = .instr i) : i.format = .cmd := by
  obtain ⟨j, same, command⟩ := decodeCmd_legal (cmdLegal_of_decodeCmd decodes)
  cases decodes.symm.trans same
  exact command

theorem exec_of_decodeCmd (decodes : decodeCmd w = .instr i) (s : State) : exec i s = .next (perform i s) :=
  exec_command (format_of_decodeCmd decodes) s

theorem perform_frame : perform i s =
    { perform i s with errBusy := s.errBusy, rstN := s.rstN, inputs := s.inputs } := by
  rw [perform, body_frame]; rfl

theorem idle_perform (out : s.rstN = true) : Idle (perform i s) := ⟨by rw [perform_frame]; exact out, rfl⟩

/-- The accepted word shows no more in the state once the command is performed. -/
theorem perform_acceptCommand : perform i (acceptCommand w s) = perform i s :=
  calc perform i (acceptCommand w s) = body i (complete (acceptCommand w s)) := (body_complete _ i).symm
    _ = body i (complete s) := rfl
    _ = perform i s := body_complete s i

theorem perform_with (b : Bool) (l : List Input) :
    perform i { s with errBusy := b, inputs := l } = { perform i s with errBusy := b, inputs := l } :=
  congrArg complete (body_with i s b l)

theorem perform_with_inputs (l : List Input) : perform i { s with inputs := l } = { perform i s with inputs := l } := by
  refine (perform_with s.errBusy l).trans ?_
  rw [perform_frame]

/-! ## The steps of such a run -/

variable (rest : List Input) (k : Nat)

theorem run_accept (idle : Idle s) (legal : cmdLegal w = true) :
    core.run (k + 1) { s with inputs := .bus (busWord true 0x003#9 w) :: rest } =
      core.run k { acceptCommand w s with inputs := rest } := by
  refine core_run_succ ((step_bus s rest _).trans ?_) k
  rw [decodeBus_issue]
  exact cmdIssue_accepted (s := { s with inputs := rest }) idle.left idle.right legal

theorem run_engine (decodes : decodeCmd w = .instr i) :
    core.run (k + 1) { acceptCommand w s with inputs := .engine :: rest } =
      core.run k { perform i s with inputs := rest } := by
  refine core_run_succ ((step_engine rest rfl decodes).trans ?_) k
  rw [exec_of_decodeCmd decodes, perform_with_inputs, perform_acceptCommand]

theorem run_write {a : Addr} (other : a ≠ 0x003#9) (v : Word) :
    core.run (k + 1) { s with inputs := .bus (busWord true a v) :: rest } =
      core.run k (memWrite a v { s with inputs := rest }) := by
  refine core_run_succ ((step_bus s rest _).trans ?_) k
  rw [decodeBus_write other]; rfl

theorem run_issue (idle : Idle s) (decodes : decodeCmd w = .instr i) :
    core.run (k + 2) { s with inputs := .bus (busWord true 0x003#9 w) :: .engine :: rest } =
      core.run k { perform i s with inputs := rest } :=
  (run_accept (.engine :: rest) (k + 1) idle (cmdLegal_of_decodeCmd decodes)).trans (run_engine rest k decodes)

end

/-- The script in which the host issues the words one by one, each completed before the next. -/
def issues (ws : List Word) : List Input := ws.flatMap fun w => [.bus (busWord true 0x003#9 w), .engine]

/-- Each of the words is performed in turn. -/
theorem run_issues (parts : List (Word × Instr)) (decode : ∀ p ∈ parts, decodeCmd p.1 = .instr p.2) {s : State}
    (idle : Idle s) :
    core.run (2 * parts.length) { s with inputs := issues (parts.map Prod.fst) } =
      .next { parts.foldl (fun u p => perform p.2 u) s with inputs := [] } := by
  induction parts generalizing s with
  | nil => rfl
  | cons p parts ih =>
    obtain ⟨first, others⟩ := List.forall_mem_cons.mp decode
    exact (run_issue (issues (parts.map Prod.fst)) (2 * parts.length) idle first).trans (ih others (idle_perform idle.left))

/-- The completions in between leave no trace. -/
theorem perform_perform (i j : Instr) (s : State) : perform j (perform i s) = complete (body j (body i s)) := by
  rw [perform, perform, body_complete, complete_complete]

/-- The parts of a spectrum frame (R222), each with its word. -/
def spectrumParts : List (Word × Instr) :=
  [(0x01, .clrim), (0x23, .fft false true), (0x04, .mag), (0x05, .update), (0x06, .render), (0x0B, .tick)]

/-- The parts of an oscilloscope frame (R222), each with its word. -/
def scopeParts : List (Word × Instr) := [(0x07, .scope), (0x0B, .tick)]

theorem foldl_spectrumParts {s : State} (spectrum : s.disp = .spectrum) :
    spectrumParts.foldl (fun u p => perform p.2 u) s = perform .frame s := by
  simp only [spectrumParts, List.foldl_cons, List.foldl_nil, perform, body_complete, complete_complete]
  exact congrArg (fun u => complete (tick u)) (framePath_of_spectrum spectrum).symm

theorem foldl_scopeParts {s : State} (oscilloscope : s.disp = .oscilloscope) :
    scopeParts.foldl (fun u p => perform p.2 u) s = perform .frame s := by
  simp only [scopeParts, List.foldl_cons, List.foldl_nil, perform, body_complete, complete_complete]
  exact congrArg (fun u => complete (tick u)) (framePath_of_oscilloscope oscilloscope).symm

/-! ## A write of LEVEL beside a command -/

theorem addr_level_ne_cmd (k : Fin 32) : addr 0x0E0 k ≠ 0x003#9 := fun same =>
  absurd ((target_level k).symm.trans (congrArg target same)) nofun

/-- The write comes first: it raises BusyError, which the command does not see. -/
theorem run_write_before_engine {s : State} (idle : Idle s) {w : Word} {i : Instr} (decodes : decodeCmd w = .instr i)
    (k : Fin 32) (v : Word) :
    core.run 3 { s with inputs := [.bus (busWord true 0x003#9 w), .bus (busWord true (addr 0x0E0 k) v), .engine] } =
      .next { perform i s with errBusy := true, inputs := [] } := by
  have notStatus : addr 0x0E0 k ≠ 0x002#9 := fun same => absurd ((target_level k).symm.trans (congrArg target same)) nofun
  rw [run_accept _ 2 idle (cmdLegal_of_decodeCmd decodes), run_write _ 1 (addr_level_ne_cmd k),
    memWrite_busy (s := { acceptCommand w s with inputs := [.engine] }) idle.left rfl notStatus]
  refine (run_engine (s := { s with errBusy := true }) [] 0 decodes).trans ?_
  exact congrArg (fun u : State => Host.Outcome.next { u with inputs := [] }) (perform_with (s := s) true s.inputs)

/-- The write comes second: the block is idle again, so it is performed. -/
theorem run_write_after_engine {s : State} (idle : Idle s) {w : Word} {i : Instr} (decodes : decodeCmd w = .instr i)
    (k : Fin 32) (v : Word) :
    core.run 3 { s with inputs := [.bus (busWord true 0x003#9 w), .engine, .bus (busWord true (addr 0x0E0 k) v)] } =
      .next { perform i s with level := (perform i s).level.set k (BitVec.ofNat 4 v.toNat), inputs := [] } := by
  obtain ⟨out, done⟩ := idle_perform (i := i) idle.left
  rw [run_issue _ 1 idle decodes, run_write _ 0 (addr_level_ne_cmd k),
    memWrite_idle (s := { perform i s with inputs := [] }) out done, addr, target_level k]
  rfl

end Sys2Proof.Machine

namespace Sys2Proof

open Sys2Proof.Machine Sys2Proof.Claims

/-- Settles O57: the parts performed in turn are FRAME's body and one completion. -/
theorem frameEqualsCommandSequence : Obligations.FrameEqualsCommandSequence := by
  intro s idle
  have frame := run_issue [] 0 idle (show decodeCmd 0x0C = .instr .frame by decide)
  constructor
  case left =>
    intro spectrum
    refine ⟨_, frame, (run_issues spectrumParts (by decide) idle).trans ?_⟩
    rw [foldl_spectrumParts spectrum]
  case right =>
    intro oscilloscope
    refine ⟨_, frame, (run_issues scopeParts (by decide) idle).trans ?_⟩
    rw [foldl_scopeParts oscilloscope]

/-- Settles O25: the first order is that of a BusyError the command does not see, the second that of a write after it. -/
theorem writeRacesWithCompletion : Obligations.WriteRacesWithCompletion := by
  intro s k v w idle legal
  obtain ⟨i, decodes, -⟩ := decodeCmd_legal legal
  exact ⟨_, run_issue [] 0 idle decodes, rfl, by rw [perform_frame], run_write_before_engine idle decodes k v,
    run_write_after_engine idle decodes k v⟩

end Sys2Proof
end

section
/-! Commands performed again and again: a closed form for the counters of UPDATE and TICK (42_display.md R163,
43_mode_tone.md R192, R197, R198, 40_fft.md R122), and O28, O41, O42, O49, O53 and O55. -/

namespace Sys2Proof.Machine

open Sys2Proof.Claims

/-- What holds at the start and is carried on by each completion holds after any number of them. -/
theorem execTimes_induction {i : Instr} (command : i.format = .cmd) {P : Nat → State → Prop}
    (next : ∀ n u, P n u → P (n + 1) (perform i u)) (n : Nat) {s : State} (start : P 0 s) :
    ∃ t, execTimes i n s = .next t ∧ P n t := by
  induction n generalizing s P with
  | zero => exact ⟨s, rfl, start⟩
  | succ n ih =>
    obtain ⟨t, runs, holds⟩ := ih (P := fun m => P (m + 1)) (fun m => next (m + 1)) (next 0 s start)
    exact ⟨t, by rw [execTimes, exec_command command]; exact runs, holds⟩

theorem bitrevArray_bitrevArray (x : Vector Byte 64) : bitrevArray (bitrevArray x) = x := by
  ext i h : 1
  simp only [getElem_bitrevArray, Fin.eta, rev6_rev6]

/-- The three modes of a built buzzer are a cycle (R191). -/
theorem nextToneMode_cycle (m : ToneMode) :
    nextToneMode Config.hasBuzzer (nextToneMode Config.hasBuzzer (nextToneMode Config.hasBuzzer m)) = m := by
  cases m with
  | off => rfl
  | toneDirect => rfl
  | toneBuzzer => rfl

/-! ## A count of `n` in periods of `d` -/

theorem count_wraps {n d : Nat} (period : 0 < d) (due : d ≤ n % d + 1) : (n + 1) / d = n / d + 1 ∧ (n + 1) % d = 0 := by
  refine (Nat.div_mod_unique period).mpr ⟨?_, period⟩
  have last : n % d + 1 = d := Nat.le_antisymm (Nat.mod_lt n period) due
  have split := Nat.div_add_mod n d
  rw [Nat.mul_succ]
  omega

theorem count_goes_on {n d : Nat} (early : n % d + 1 < d) : (n + 1) / d = n / d ∧ (n + 1) % d = n % d + 1 := by
  refine (Nat.div_mod_unique (Nat.zero_lt_of_lt early)).mpr ⟨?_, early⟩
  rw [Nat.add_right_comm, Nat.mod_add_div]

theorem effectiveDroop_pos (s : State) : 0 < effectiveDroop s := Nat.le_max_right _ 1

theorem topIndex_pos (s : State) : 0 < topIndex s := Nat.le_max_right _ 1

theorem framesPerStep_pos (s : State) : 0 < framesPerStep s := Nat.le_max_right _ 1

/-! ## The decay of a peak (R163) -/

/-- Column `d` after `n` UPDATEs with level 0, from the peak `p` and count 0. -/
structure Decaying (deff p : Nat) (d : Fin 32) (n : Nat) (u : State) : Prop where
  silent : u.bandLevel d = 0
  interval : effectiveDroop u = deff
  peak : (u.column d).peak.toNat = p - n / deff
  count : (u.column d).dcnt.toNat = n % deff

theorem Decaying.update {deff p : Nat} {d : Fin 32} {n : Nat} {u : State} (decaying : Decaying deff p d n u) :
    Decaying deff p d (n + 1) (perform .update u) := by
  obtain ⟨silent, interval, peak, count⟩ := decaying
  have column : (perform .update u).column d = updateColumn (effectiveDroop u) 0 (u.column d) :=
    silent ▸ column_update u d
  have held : (0 : Level) ≤ (u.column d).peak := BitVec.le_def.mpr (Nat.zero_le _)
  have period : 0 < deff := interval ▸ effectiveDroop_pos u
  rcases Nat.lt_or_ge ((u.column d).dcnt.toNat + 1) (effectiveDroop u) with early | due
  case inl =>
    obtain ⟨quotient, remainder⟩ := count_goes_on (n := n) (d := deff) (by rwa [← count, ← interval])
    have counted := toNat_add_one_of_lt_effectiveDroop early
    rw [updateColumn_count held early] at column
    exact ⟨silent, interval, by rw [column, quotient, peak], by rw [column, counted, remainder, count]⟩
  case inr =>
    obtain ⟨quotient, remainder⟩ := count_wraps (n := n) period (by rwa [← count, ← interval])
    have lowered := toNat_decayedPeak 0 (u.column d).peak
    rw [updateColumn_decay held due] at column
    refine ⟨silent, interval, ?_, by rw [column, remainder]; rfl⟩
    rw [column, lowered, quotient, peak]
    change (if 0 < p - n / deff then p - n / deff - 1 else p - n / deff) = _
    split <;> omega

/-! ## The sweep (R197) -/

/-- The sweep after `n` TICKs in a tone mode, from IDX = 1 and TCNT = 0. -/
structure Sweeping (fm st : Nat) (n : Nat) (u : State) : Prop where
  tone : u.toneMode ≠ .off
  top : topIndex u = fm
  frames : framesPerStep u = st
  index : u.idx.toNat = n / st % fm + 1
  count : u.tcnt.toNat = n % st

theorem Sweeping.tick {fm st n : Nat} {u : State} (sweeping : Sweeping fm st n u) :
    Sweeping fm st (n + 1) (perform .tick u) := by
  obtain ⟨tone, top, frames, index, count⟩ := sweeping
  have range : 0 < fm := top ▸ topIndex_pos u
  have period : 0 < st := frames ▸ framesPerStep_pos u
  change Sweeping fm st (n + 1) (complete (Machine.tick u))
  rcases Nat.lt_or_ge (u.tcnt.toNat + 1) (framesPerStep u) with early | due
  case inl =>
    obtain ⟨quotient, remainder⟩ := count_goes_on (n := n) (d := st) (by rwa [← count, ← frames])
    have counted := toNat_countedFrames early
    rw [tick_count tone early]
    exact ⟨tone, top, frames, by rw [quotient]; exact index, by rw [remainder, ← count]; exact counted⟩
  case inr =>
    obtain ⟨quotient, remainder⟩ := count_wraps (n := n) period (by rwa [← count, ← frames])
    have stepped := toNat_steppedIndex (s := u)
    rw [tick_step tone due]
    refine ⟨tone, top, frames, stepped.trans ?_, remainder.symm⟩
    rw [quotient, top, index]
    split
    next wrap => rw [(count_wraps range wrap).right]
    next below => rw [(count_goes_on (Nat.lt_of_not_le below)).right]

/-! ## TONE_HP of the reset TONE_K (R198) -/

theorem halfPeriods_distinct : ∀ i j : Fin 33, 1 ≤ i.val → 1 ≤ j.val → 16000 / i.val = 16000 / j.val → i = j := by decide

end Sys2Proof.Machine

namespace Sys2Proof

open Sys2Proof.Machine Sys2Proof.Claims

/-- Settles O28: `rev6` is its own inverse. -/
theorem bitrevTwiceIsIdentity : Obligations.BitrevTwiceIsIdentity := by
  intro s
  have twice : execTimes .bitrev 2 s = .next (complete (bitrev (bitrev s))) :=
    congrArg Host.Outcome.next (perform_perform .bitrev .bitrev s)
  rw [twice, bitrev, bitrev, bitrevArray_bitrevArray, bitrevArray_bitrevArray]
  rfl

/-- Settles O41: from the three cases of UPDATE (O40). -/
theorem peakDecayProperties : Obligations.PeakDecayProperties := by
  intro s
  obtain ⟨cur, peak, dcnt, completes, rule⟩ := updateMergesLevels s
  refine ⟨_, completes, fun d => ?_⟩
  obtain ⟨level, attack, decay, count⟩ := rule d
  rcases Nat.lt_or_ge s.peak[d].toNat s.level[s.band[d].toFin].toNat with above | held
  case inl =>
    obtain ⟨raised, -⟩ := attack above
    simp only at level raised ⊢
    omega
  case inr =>
    rcases Nat.lt_or_ge (s.dcnt[d].toNat + 1) (max s.droop.toNat 1) with early | due
    · obtain ⟨same, -⟩ := count held early
      simp only at level same ⊢
      omega
    · obtain ⟨lowered, restart⟩ := decay held due
      simp only at level lowered restart ⊢
      refine ⟨?_, ?_, fun _ => ⟨BitVec.eq_of_toNat_eq restart, due⟩⟩ <;> split at lowered <;> omega

/-- Settles O42: the peak is P less the quotient of n by Deff. -/
theorem peakReachesZeroAfterExactly : Obligations.PeakReachesZeroAfterExactly := by
  intro s d restart silent n
  have start : Decaying (effectiveDroop s) s.peak[d].toNat d 0 s :=
    ⟨silent, rfl, by rw [Nat.zero_div]; rfl, by rw [Nat.zero_mod, State.column, restart]; rfl⟩
  obtain ⟨t, runs, -, -, peak, -⟩ := execTimes_induction rfl (fun _ _ => Decaying.update) n start
  refine ⟨t, runs, ?_⟩
  have value : t.peak[d].toNat = s.peak[d].toNat - n / effectiveDroop s := peak
  rw [← BitVec.toNat_inj, value, ← effectiveDroop, ← Nat.le_div_iff_mul_le (effectiveDroop_pos s)]
  exact Nat.sub_eq_zero_iff_le

/-- Settles O53: by induction on the TICKs. -/
theorem sweepVisitsEveryIndexInOrder : Obligations.SweepVisitsEveryIndexInOrder := by
  intro s tone first restart n
  have start : Sweeping (topIndex s) (framesPerStep s) 0 s :=
    ⟨tone, rfl, rfl, by rw [first, Nat.zero_div, Nat.zero_mod]; rfl, by rw [restart, Nat.zero_mod]; rfl⟩
  obtain ⟨t, runs, -, -, -, index, count⟩ := execTimes_induction rfl (fun _ _ => Sweeping.tick) n start
  exact ⟨t, runs, index, count⟩

/-- Settles O49: the three modes are a cycle. -/
theorem threeBtnModesReturn : Obligations.ThreeBtnModesReturn := by
  intro s
  refine ⟨perform .btnMode (perform .btnMode (perform .btnMode s)), rfl, ?_, rfl⟩
  exact nextToneMode_cycle s.toneMode

/-- Settles O55: the quotients of the reset TONE_K by 1 to 32 are a table. -/
theorem halfPeriodsAreDistinct : Obligations.HalfPeriodsAreDistinct := by
  refine ⟨fun s _ => s.toNat_toneHp, fun i j => ?_⟩
  intro iPos iTop jPos jTop other same
  have quotients := congrArg BitVec.toNat same
  rw [State.toNat_toneHp, State.toNat_toneHp] at quotients
  exact other (BitVec.eq_of_toNat_eq (Fin.mk.inj_iff.mp
    (halfPeriods_distinct ⟨i.toNat, Nat.lt_succ_of_le iTop⟩ ⟨j.toNat, Nat.lt_succ_of_le jTop⟩ iPos jPos quotients)))

end Sys2Proof
end

section
/-! The FFT engine beyond single butterflies (40_fft.md R114, R117, R121): the scan of swaps, the range of a product, and
the transform of an impulse; O29, O31 and O35. -/

namespace Sys2Proof.Machine

open Sys2Proof.Claims

/-! ## The scan of R121 moves elements without looking at them -/

theorem map_swap {α β : Type} {n : Nat} (f : α → β) (x : Vector α n) (i j : Nat) (hi : i < n) (hj : j < n) :
    (x.swap i j).map f = (x.map f).swap i j := by
  ext k h
  simp only [Vector.getElem_map, Vector.getElem_swap]
  split
  · rfl
  · split <;> rfl

theorem scan_map (f : Byte → Byte) (n : Nat) :
    ∀ (mr : Nat) (x : Vector Byte 64), scan n mr (x.map f) = (scan n mr x).map f := by
  induction n with
  | zero => exact fun _ _ => rfl
  | succ n ih =>
    intro mr x
    rw [scan, scan, ← ih]
    congr 1
    split
    · rw [map_swap]
    · rfl

/-- Every index, at its own place. -/
def indices : Vector Byte 64 := Vector.ofFn fun i => BitVec.ofNat 8 i.val

theorem scan_indices : scan 63 0 indices = bitrevArray indices := by decide +kernel

theorem map_indices (x : Vector Byte 64) : indices.map (fun b => x[b.toNat % 64]) = x := by
  ext i h
  have small : i % 256 % 64 = i := by omega
  simp [indices, small]

theorem bitrevArray_map (f : Byte → Byte) (x : Vector Byte 64) : bitrevArray (x.map f) = (bitrevArray x).map f := by
  ext i h : 1
  simp

/-- The scan permutes every array as it permutes the indices. -/
theorem scan_eq_bitrevArray (x : Vector Byte 64) : scan 63 0 x = bitrevArray x := by
  rw [← map_indices x, scan_map, scan_indices, bitrevArray_map]

/-! ## The range of a product (R114) -/

theorem mul_byte_bounds (w : Int) {x : Int} (lower : -128 ≤ x) (upper : x ≤ 127) :
    (0 ≤ w ∧ w * -128 ≤ w * x ∧ w * x ≤ w * 127) ∨ (w ≤ 0 ∧ w * 127 ≤ w * x ∧ w * x ≤ w * -128) :=
  (Int.le_total 0 w).imp
    (fun nonneg => ⟨nonneg, Int.mul_le_mul_of_nonneg_left lower nonneg, Int.mul_le_mul_of_nonneg_left upper nonneg⟩)
    fun nonpos => ⟨nonpos, Int.mul_le_mul_of_nonpos_left nonpos upper, Int.mul_le_mul_of_nonpos_left nonpos lower⟩

/-- A product of two bytes reaches 128 * 128 in the corner, and elsewhere at most 127 * 128. -/
theorem byte_product_corner {w x : Int} (wLower : -128 ≤ w) (wUpper : w ≤ 127) (xLower : -128 ≤ x) (xUpper : x ≤ 127) :
    w * x ≤ 127 * 128 ∨ w = -128 ∧ x = -128 := by
  by_cases corner : w = -128
  · subst corner
    omega
  · have product := mul_byte_bounds w xLower xUpper
    omega

/-! ## The transform of an impulse (R117) -/

/-- An element after a stage that leaves it alone but for the halving of SCALE = 1 (R119). -/
def halveByte (scale : Bool) (b : Byte) : Byte := n8 (halveIf scale b.toInt)

theorem toInt_halveByte : ∀ (scale : Bool) (b : Byte), (halveByte scale b).toInt = halveIf scale b.toInt := by decide

theorem halveByte_zero (scale : Bool) : halveByte scale 0 = 0 := by
  revert scale
  decide

/-- Six halvings are a division by 64. -/
theorem toInt_halveByte_iterate (scale : Bool) (b : Byte) :
    ((halveByte scale)^[6] b).toInt = if scale then b.toInt / 64 else b.toInt := by
  simp only [Function.iterate_succ_apply', Function.iterate_zero_apply, toInt_halveByte]
  cases scale with
  | false => rfl
  | true => simp only [halveIf_true, if_true]; omega

/-- The arrays that hold `b` in the first 2^n real elements and 0 everywhere else. -/
def Flat (n : Nat) (b : Byte) (c : Coeffs) : Prop := ∀ k : Fin 64, c.elem k = (if k.val < 2 ^ n then b else 0, 0)

/-- A lower element of 0 leaves the upper one, halved where SCALE = 1, in both. -/
theorem results_of_lower_zero (scale : Bool) (wr wi : Int) (x : Byte) :
    upperResult scale wr wi (x, 0) (0, 0) = (halveByte scale x, 0) ∧
    lowerResult scale wr wi (x, 0) (0, 0) = (halveByte scale x, 0) := by
  have zero : n8 (halveIf scale 0) = 0 := halveByte_zero scale
  simp [upperResult, lowerResult, halveByte, zero]

section
variable {inv scale : Bool} {t : Nat} (six : t < 6)
include six

theorem owner_mem_stagePairs (k : Fin 64) : owner t k ∈ stagePairs t := by
  refine mem_stagePairs.mpr ⟨Nat.mod_lt _ (Nat.two_pow_pos t), ?_⟩
  have below := k.isLt
  simp only [owner]
  interval_cases t <;> omega

/-- Every element is the upper or the lower one of its butterfly. -/
theorem eq_upper_or_lower (k : Fin 64) : k = upper t (owner t k) ∨ k = lower t (owner t k) := by
  have place := owner_mem_stagePairs six k
  rw [Fin.ext_iff, Fin.ext_iff, val_upper six place, val_lower six place]
  simp only [owner]
  interval_cases t <;> omega

theorem val_upper_owner_lt (k : Fin 64) : (upper t (owner t k)).val < 2 ^ t ↔ k.val < 2 ^ (t + 1) := by
  rw [val_upper six (owner_mem_stagePairs six k)]
  simp only [owner]
  interval_cases t <;> omega

/-- A stage doubles the flat part: the lower elements were 0, so both elements of a pair become the upper one. -/
theorem flat_stage {b : Byte} {c : Coeffs} (flat : Flat t b c) :
    Flat (t + 1) (halveByte scale b) (stage inv scale t c) := by
  intro k
  have place := owner_mem_stagePairs six k
  obtain ⟨ruleUpper, ruleLower⟩ := stage_eq_foldl inv scale t c ▸
    pairRule_foldl six (List.Subset.refl _) (nodup_stagePairs t) c place
  have beyond : ¬ (lower t (owner t k)).val < 2 ^ t := by
    rw [val_lower six place]
    exact Nat.not_lt.mpr (Nat.le_add_left _ _)
  have lowerZero := flat (lower t (owner t k))
  have upperFlat := flat (upper t (owner t k))
  rw [if_neg beyond] at lowerZero
  simp only [val_upper_owner_lt six k] at upperFlat
  rw [upperFlat, lowerZero] at ruleUpper ruleLower
  have both : (stage inv scale t c).elem k = (halveByte scale (if k.val < 2 ^ (t + 1) then b else 0), 0) := by
    rcases eq_upper_or_lower six k with isUpper | isLower
    · exact (congrArg (Coeffs.elem _) isUpper).trans (ruleUpper.trans (results_of_lower_zero scale _ _ _).left)
    · exact (congrArg (Coeffs.elem _) isLower).trans (ruleLower.trans (results_of_lower_zero scale _ _ _).right)
  rw [both, apply_ite (halveByte scale), halveByte_zero]

end

theorem flat_afterStages (inv scale : Bool) {b : Byte} {c : Coeffs} (start : Flat 0 b (afterStages inv scale c 0)) {n : Nat}
    (six : n ≤ 6) : Flat n ((halveByte scale)^[n] b) (afterStages inv scale c n) := by
  induction n with
  | zero => exact start
  | succ n ih =>
    rw [afterStages_succ, Function.iterate_succ_apply']
    exact flat_stage six (ih (Nat.le_of_succ_le six))

theorem rev6_eq_zero_iff : ∀ k : Fin 64, rev6 k = 0 ↔ k = 0 := by decide

theorem flat_permuted {re im : Vector Byte 64} (inv scale : Bool) (others : ∀ i : Fin 64, i ≠ 0 → re[i] = 0)
    (imZero : ∀ i : Fin 64, im[i] = 0) : Flat 0 re[(0 : Fin 64)] (afterStages inv scale ⟨re, im⟩ 0) := by
  intro k
  refine Prod.ext ?_ ((getElem_bitrevArray im k k.isLt).trans (imZero (rev6 k)))
  refine (getElem_bitrevArray re k k.isLt).trans ?_
  by_cases first : k = 0
  · subst first; rfl
  · have later : ¬ k.val < 2 ^ 0 := fun low => first (Fin.ext (Nat.lt_one_iff.mp low))
    rw [if_neg later]
    exact others (rev6 k) (mt (rev6_eq_zero_iff k).mp first)

end Sys2Proof.Machine

namespace Sys2Proof

open Sys2Proof.Machine Sys2Proof.Claims

/-- Settles O29: the scan of the indices, once, is the scan of every array. -/
theorem scanEqualsBitrev : Obligations.ScanEqualsBitrev := by
  intro s
  rw [scan_eq_bitrevArray, scan_eq_bitrevArray]
  exact completes_body rfl s

/-- Settles O31: the range of the products, rounded. -/
theorem fmulBounds : Obligations.FmulBounds := by
  intro w x wLower wUpper xLower xUpper
  have product := mul_byte_bounds w xLower xUpper
  have corner := byte_product_corner wLower wUpper xLower xUpper
  rw [fmul_eq]
  refine ⟨by omega, by omega, ⟨fun top => corner.resolve_left (by omega), ?_⟩, by omega⟩
  rintro ⟨rfl, rfl⟩
  rfl

/-- Settles O35: each stage doubles the flat part, and after six it is the whole array. -/
theorem fftOfImpulseIsFlat : Obligations.FftOfImpulseIsFlat := by
  intro inv scale v s impulse others imZero
  refine ⟨_, exec_command rfl s, fun k => ?_⟩
  have flat := flat_afterStages inv scale (flat_permuted inv scale others imZero) (Nat.le_refl 6) k
  rw [impulse, if_pos (show k.val < 2 ^ 6 from k.isLt), ← transform_eq_afterStages] at flat
  obtain ⟨re, im⟩ := Prod.ext_iff.mp flat
  exact ⟨(congrArg BitVec.toInt re).trans (toInt_halveByte_iterate scale v), im⟩

end Sys2Proof
end

section
/-! Magnitudes, levels and a silent frame (41_magnitude.md R141 to R147): O36, O38, O39 and O58. -/

namespace Sys2Proof.Machine

open Sys2Proof.Claims

/-! ## The largest magnitude (R142) -/

theorem sq_toInt_le_of_ne_neg {b : Byte} (inside : b.toInt ≠ -128) : b.toInt * b.toInt ≤ 127 * 127 :=
  have lower := b.le_toInt
  have upper := b.toInt_lt
  have within : |b.toInt| ≤ 127 := abs_le.mpr ⟨by omega, by omega⟩
  abs_le_iff_mul_self_le.mp within

/-- 181^2 = 32761, and with one operand inside the range a power is at most 127^2 + 128^2 = 32513. -/
theorem corner_of_power {re im : Byte} (large : 32761 ≤ power re im) : re.toInt = -128 ∧ im.toInt = -128 := by
  have cast := cast_power re im
  have reSq := sq_toInt_le re
  have imSq := sq_toInt_le im
  by_contra inside
  rcases not_and_or.mp inside with re' | im'
  · have := sq_toInt_le_of_ne_neg re'
    omega
  · have := sq_toInt_le_of_ne_neg im'
    omega

theorem power_of_corner {re im : Byte} (reCorner : re.toInt = -128) (imCorner : im.toInt = -128) : power re im = 32768 := by
  rw [power, reCorner, imCorner]; rfl

theorem isqrt_power (re im : Byte) : isqrt (power re im) = Nat.sqrt (power re im) :=
  isqrt_eq_sqrt ((power_le re im).trans_lt (by decide))

/-! ## The quantizers are monotonic (R144, R145) -/

theorem qthr_mono (thr : Vector Byte 15) (lm : Nat) {m₁ m₂ : Nat} (larger : m₁ ≤ m₂) : qthr thr lm m₁ ≤ qthr thr lm m₂ :=
  List.findIdx_le_findIdx fun _ _ below => decide_eq_true (larger.trans_lt (of_decide_eq_true below))

theorem qlin_mono (shift sub lt : Nat) {m₁ m₂ : Nat} (larger : m₁ ≤ m₂) : qlin shift sub lt m₁ ≤ qlin shift sub lt m₂ := by
  have shifted : (m₁ : Int) / 2 ^ shift ≤ (m₂ : Int) / 2 ^ shift := Int.ediv_le_ediv (by positivity) (mod_cast larger)
  rw [← Int.ofNat_le, cast_qlin, cast_qlin]
  gcongr

/-! ## What MAG reads (R143, R147) -/

/-- The word of QCFG determines its fields. -/
theorem qcfg_fields {s u : State} (same : s.qcfg = u.qcfg) :
    s.toneSub = u.toneSub ∧ s.toneShift = u.toneShift ∧ s.lmaxTone = u.lmaxTone ∧ s.lmaxSpec = u.lmaxSpec := by
  have words := congrArg BitVec.toNat same
  rw [toNat_qcfg, toNat_qcfg] at words
  bv_omega

theorem quantize_congr {s u : State} (tone : s.toneMode = u.toneMode) (qcfg : s.qcfg = u.qcfg) (thr : s.thr = u.thr)
    (m : Nat) : quantize s m = quantize u m := by
  obtain ⟨sub, shift, lmaxTone, lmaxSpec⟩ := qcfg_fields qcfg
  rw [quantize, quantize, tone, sub, shift, lmaxTone, lmaxSpec, thr]

/-! ## Silence -/

/-- RE and IM all 0: what CLRIM leaves of a frame of silence, and what FFT leaves of that. -/
def Silent (s : State) : Prop := ∀ i : Fin 64, s.re[i] = 0 ∧ s.im[i] = 0

theorem silent_clrim {s : State} (re : ∀ i : Fin 64, s.re[i] = 0) : Silent (clrim s) := fun i =>
  ⟨re i, Vector.getElem_replicate i.isLt⟩

theorem silent_fft (inv scale : Bool) {s : State} (silent : Silent s) : Silent (fft inv scale s) := by
  obtain ⟨t, answers, flat⟩ := fftOfImpulseIsFlat inv scale 0 s (silent 0).left (fun i _ => (silent i).left)
    fun i => (silent i).right
  cases answers
  intro i
  obtain ⟨re, im⟩ := flat i
  refine ⟨BitVec.eq_of_toInt_eq (re.trans ?_), im⟩
  cases scale <;> rfl

theorem magnitude_of_silent {s : State} (silent : Silent s) (k : Fin 32) : magnitude s k = 0 := by
  obtain ⟨re, im⟩ := silent (lowerHalf k)
  rw [magnitude, re, im]
  decide

/-- A first threshold above 0 catches magnitude 0 (R144). -/
theorem qthr_zero {thr : Vector Byte 15} (positive : 0 < thr[(0 : Fin 15)].toNat) (lm : Nat) : qthr thr lm 0 = 0 := by
  by_contra above
  exact absurd (thr_le_of_lt_qthr thr lm 0 (i := 0) (Nat.pos_of_ne_zero above)) (Nat.not_le.mpr positive)

theorem silent_levels {s : State} (silent : Silent s) (off : s.toneMode = .off) (positive : 0 < s.thr[(0 : Fin 15)].toNat)
    (k : Fin 32) : (magBody s).mag[k] = 0 ∧ (magBody s).level[k] = 0 := by
  refine ⟨BitVec.eq_of_toNat_eq ?_, BitVec.eq_of_toNat_eq ?_⟩
  · rw [toNat_magBody_mag, magnitude_of_silent silent]; rfl
  · rw [toNat_magBody_level, magnitude_of_silent silent, quantize_of_off off, qthr_zero positive]; rfl

theorem update_cur (s : State) (d : Fin 32) : (update s).cur[d] = s.bandLevel d :=
  (congrArg Column.cur (column_update s d)).trans updateColumn_cur

theorem drawRow_unlit {lit : Fin 32 → Bool} (pos : Fin 32 → Fin 32) (unlit : ∀ d, lit d = false) : drawRow lit pos = 0 := by
  ext p inRow
  have bit := drawRow_bit lit pos ⟨p, inRow⟩
  simpa [unlit] using bit

/-- With the bars filled from CUR, columns at 0 light no row (R164, R167). -/
theorem render_dark {s : State} (fill : s.dot = false) (fromCur : s.fsrc = false) (zero : ∀ d : Fin 32, s.cur[d] = 0)
    (r : Fin 8) : (render s).fb[r] = 0 := by
  rw [render, Fin.getElem_fin, getElem_tabulate]
  refine drawRow_unlit _ fun d => ?_
  rw [rowLit_eq, fill, fromCur, zero d]
  rfl

end Sys2Proof.Machine

namespace Sys2Proof

open Sys2Proof.Machine

/-- Settles O36: a root of 181 needs a power that only the corner has. -/
theorem isqrtIsFloorSquareRoot : Obligations.IsqrtIsFloorSquareRoot := by
  refine ⟨fun p operand => ?root, fun re im => ⟨power_le re im, ?bound, ?corner⟩⟩
  case root => rw [isqrt_eq_sqrt operand]; exact ⟨Nat.sqrt_le p, Nat.lt_succ_sqrt p⟩
  case bound =>
    rw [isqrt_power]
    exact Nat.lt_succ_iff.mp (Nat.sqrt_lt.mpr ((power_le re im).trans_lt (by decide)))
  case corner =>
    rw [isqrt_power]
    refine ⟨fun root => corner_of_power ?_, fun ⟨reCorner, imCorner⟩ => ?_⟩
    · exact Nat.le_sqrt.mp root.ge
    · rw [power_of_corner reCorner imCorner]
      exact (Nat.eq_sqrt.mpr ⟨by decide, by decide⟩).symm

/-- Settles O38: neither needs more than that the tests of the table, or the shifted magnitudes, are ordered. -/
theorem quantizersAreMonotonic : Obligations.QuantizersAreMonotonic := fun _ _ larger =>
  ⟨fun thr lm _ => qthr_mono thr lm larger, fun shift sub lt => qlin_mono shift sub lt larger⟩

/-- Settles O39: magnitudes and levels are the same function of the listed operands. -/
theorem magReadsOnlyItsOperands : Obligations.MagReadsOnlyItsOperands := by
  intro s u bins tone qcfg thr
  have magnitudes (k : Fin 32) : magnitude s k = magnitude u k := by
    obtain ⟨re, im⟩ := bins k
    rw [magnitude, magnitude, re, im]
  refine ⟨_, _, exec_command rfl s, exec_command rfl u, ?mag, ?level⟩
  case mag => exact congrArg tabulate (funext fun k => by rw [magnitudes])
  case level => exact congrArg tabulate (funext fun k => by rw [magnitudes, quantize_congr tone qcfg thr])

/-- Settles O58: silence passes through CLRIM and FFT, MAG makes level 0 of it, UPDATE takes it into CUR, and RENDER draws
nothing; TICK touches none of these. -/
theorem silentFrameIsDark : Obligations.SilentFrameIsDark := by
  intro s spectrum off positive re
  have silent := silent_fft false true (silent_clrim re)
  have levels := silent_levels silent off positive
  have cur (d : Fin 32) := (update_cur (magBody (fft false true (clrim s))) d).trans (levels s.band[d].toFin).right
  refine ⟨_, exec_frame s, ?_⟩
  rw [framePath_of_spectrum spectrum, tick_frame]
  exact ⟨fun k => ⟨(levels k).left, (levels k).right, cur k⟩, fun fill fromCur => render_dark fill fromCur cur⟩

end Sys2Proof
end
